-- ==== Sys2Proof/Word.lean ====
section
/-!
DEFINITION. Sys2Proof/Word.lean: the two word types of the machine (spec 00_scope.md R5: registers and
addresses are 16 bits wide, a byte is 8 bits) and nothing else. Byte order and the extraction of halves stand in
Decode.lean, where a repair can reach them.
-/

namespace Sys2Proof

/-- One byte of memory, one 8-bit register half, one opcode (R5, R7). -/
abbrev Byte := BitVec 8

/-- A 16-bit register, address or immediate (R5, R7). -/
abbrev Word := BitVec 16

end Sys2Proof
end

