-- ==== Sys2Proof/WellFormed.lean ====
section
/-!
DEFINITION. Sys2Proof/WellFormed.lean: which terms of Instr are instructions. Operands are bit vectors of their field's exact
width, so no operand can be out of range; the one check left is that the prefix byte alone is no instruction.
-/

namespace Sys2Proof

/-- The one ill-formed term: the extended prefix without its second byte (R256: "The primary byte 0xCB is not an
instruction"). -/
def Instr.wf (i : Instr) : Bool :=
  match i with
  | .prefix_CB => false
  | _ => true

end Sys2Proof
end

