-- ==== Sys2Proof/Decode.lean ====
section
/-!
DEFINITION. Sys2Proof/Decode.lean: byte order and halves; the decoder, written from the field form of the opcode map (spec
30_encoding.md R82, R83, R85) and total on any bytes; and after it the encoder, written from the table form of the same map
(R84, R83). The two forms of the spec are checked against each other by the round-trip statements.
-/

namespace Sys2Proof

/-! ### Byte order, halves, extension -/

/-- `w[15:8]` (R7, R21). -/
def hiByte (w : Word) : Byte := w.extractLsb' 8 8

/-- `w[7:0]` (R7, R21). -/
def loByte (w : Word) : Byte := w.extractLsb' 0 8

/-- `{hi, lo}` (R7). -/
def wordOf (hi lo : Byte) : Word := (hi ++ lo : BitVec (8 + 8))

/-- `zext_16(e)` (R9). -/
def zext16 (e : Byte) : Word := e.setWidth 16

/-- `EXT_PREFIX`, the primary byte that selects the extended table (R6, D2). -/
def extPrefix : Byte := 0xCB

/-! ### Fields of an opcode byte (R82, R83) -/

/-- `x = op[7:6]`. -/
def fieldX (op : Byte) : Nat := (op.extractLsb' 6 2).toNat

/-- `y = op[5:3]`. -/
def fieldY (op : Byte) : Nat := (op.extractLsb' 3 3).toNat

/-- `z = op[2:0]`. -/
def fieldZ (op : Byte) : Nat := (op.extractLsb' 0 3).toNat

/-- `r[i]`, `i` three bits (R82). -/
def R8.ofCode (n : Nat) : R8 :=
  match n with
  | 0 => .b
  | 1 => .c
  | 2 => .d
  | 3 => .e
  | 4 => .h
  | 5 => .l
  | 6 => .indHL
  | _ => .a

/-- `rp[i]`, `i` two bits (R82). -/
def Rp.ofCode (n : Nat) : Rp :=
  match n with
  | 0 => .bc
  | 1 => .de
  | 2 => .hl
  | _ => .sp

/-- `rp2[i]`, `i` two bits (R82). -/
def Rp2.ofCode (n : Nat) : Rp2 :=
  match n with
  | 0 => .bc
  | 1 => .de
  | 2 => .hl
  | _ => .af

/-- `cc[i]`, `i` two bits (R82). -/
def Cond.ofCode (n : Nat) : Cond :=
  match n with
  | 0 => .nz
  | 1 => .z
  | 2 => .nc
  | _ => .c

/-- `alu[i]`, `i` three bits (R82). -/
def AluOp.ofCode (n : Nat) : AluOp :=
  match n with
  | 0 => .add
  | 1 => .adc
  | 2 => .sub
  | 3 => .sbc
  | 4 => .and
  | 5 => .xor
  | 6 => .or
  | _ => .cp

/-- `rot[i]`, `i` three bits (R82). -/
def RotOp.ofCode (n : Nat) : RotOp :=
  match n with
  | 0 => .rlc
  | 1 => .rrc
  | 2 => .rl
  | 3 => .rr
  | 4 => .sla
  | 5 => .sra
  | 6 => .swap
  | _ => .srl

/-- A three-bit index. -/
def Idx3.ofCode (n : Nat) : Idx3 :=
  match n with
  | 0 => .i0
  | 1 => .i1
  | 2 => .i2
  | 3 => .i3
  | 4 => .i4
  | 5 => .i5
  | 6 => .i6
  | _ => .i7

/-! ### The instruction of each field combination (R83, R85)

One function per form of R85 and per group of R83: from field values to the constructor that stands for them. -/

/-- `LD r[y],r[z]`, except HALT in the place of `LD (HL),(HL)` (R85, x = 1). -/
def Instr.ld8 (k : R8) (r : R8) : Instr :=
  match k, r with
  | .b, .b => .ld_B_B
  | .b, .c => .ld_B_C
  | .b, .d => .ld_B_D
  | .b, .e => .ld_B_E
  | .b, .h => .ld_B_H
  | .b, .l => .ld_B_L
  | .b, .indHL => .ld_B_indHL
  | .b, .a => .ld_B_A
  | .c, .b => .ld_C_B
  | .c, .c => .ld_C_C
  | .c, .d => .ld_C_D
  | .c, .e => .ld_C_E
  | .c, .h => .ld_C_H
  | .c, .l => .ld_C_L
  | .c, .indHL => .ld_C_indHL
  | .c, .a => .ld_C_A
  | .d, .b => .ld_D_B
  | .d, .c => .ld_D_C
  | .d, .d => .ld_D_D
  | .d, .e => .ld_D_E
  | .d, .h => .ld_D_H
  | .d, .l => .ld_D_L
  | .d, .indHL => .ld_D_indHL
  | .d, .a => .ld_D_A
  | .e, .b => .ld_E_B
  | .e, .c => .ld_E_C
  | .e, .d => .ld_E_D
  | .e, .e => .ld_E_E
  | .e, .h => .ld_E_H
  | .e, .l => .ld_E_L
  | .e, .indHL => .ld_E_indHL
  | .e, .a => .ld_E_A
  | .h, .b => .ld_H_B
  | .h, .c => .ld_H_C
  | .h, .d => .ld_H_D
  | .h, .e => .ld_H_E
  | .h, .h => .ld_H_H
  | .h, .l => .ld_H_L
  | .h, .indHL => .ld_H_indHL
  | .h, .a => .ld_H_A
  | .l, .b => .ld_L_B
  | .l, .c => .ld_L_C
  | .l, .d => .ld_L_D
  | .l, .e => .ld_L_E
  | .l, .h => .ld_L_H
  | .l, .l => .ld_L_L
  | .l, .indHL => .ld_L_indHL
  | .l, .a => .ld_L_A
  | .indHL, .b => .ld_indHL_B
  | .indHL, .c => .ld_indHL_C
  | .indHL, .d => .ld_indHL_D
  | .indHL, .e => .ld_indHL_E
  | .indHL, .h => .ld_indHL_H
  | .indHL, .l => .ld_indHL_L
  | .indHL, .indHL => .halt
  | .indHL, .a => .ld_indHL_A
  | .a, .b => .ld_A_B
  | .a, .c => .ld_A_C
  | .a, .d => .ld_A_D
  | .a, .e => .ld_A_E
  | .a, .h => .ld_A_H
  | .a, .l => .ld_A_L
  | .a, .indHL => .ld_A_indHL
  | .a, .a => .ld_A_A

/-- `alu[y] r[z]` (R85, x = 2). -/
def Instr.alu (k : AluOp) (r : R8) : Instr :=
  match k, r with
  | .add, .b => .add_A_B
  | .add, .c => .add_A_C
  | .add, .d => .add_A_D
  | .add, .e => .add_A_E
  | .add, .h => .add_A_H
  | .add, .l => .add_A_L
  | .add, .indHL => .add_A_indHL
  | .add, .a => .add_A_A
  | .adc, .b => .adc_A_B
  | .adc, .c => .adc_A_C
  | .adc, .d => .adc_A_D
  | .adc, .e => .adc_A_E
  | .adc, .h => .adc_A_H
  | .adc, .l => .adc_A_L
  | .adc, .indHL => .adc_A_indHL
  | .adc, .a => .adc_A_A
  | .sub, .b => .sub_B
  | .sub, .c => .sub_C
  | .sub, .d => .sub_D
  | .sub, .e => .sub_E
  | .sub, .h => .sub_H
  | .sub, .l => .sub_L
  | .sub, .indHL => .sub_indHL
  | .sub, .a => .sub_A
  | .sbc, .b => .sbc_A_B
  | .sbc, .c => .sbc_A_C
  | .sbc, .d => .sbc_A_D
  | .sbc, .e => .sbc_A_E
  | .sbc, .h => .sbc_A_H
  | .sbc, .l => .sbc_A_L
  | .sbc, .indHL => .sbc_A_indHL
  | .sbc, .a => .sbc_A_A
  | .and, .b => .and_B
  | .and, .c => .and_C
  | .and, .d => .and_D
  | .and, .e => .and_E
  | .and, .h => .and_H
  | .and, .l => .and_L
  | .and, .indHL => .and_indHL
  | .and, .a => .and_A
  | .xor, .b => .xor_B
  | .xor, .c => .xor_C
  | .xor, .d => .xor_D
  | .xor, .e => .xor_E
  | .xor, .h => .xor_H
  | .xor, .l => .xor_L
  | .xor, .indHL => .xor_indHL
  | .xor, .a => .xor_A
  | .or, .b => .or_B
  | .or, .c => .or_C
  | .or, .d => .or_D
  | .or, .e => .or_E
  | .or, .h => .or_H
  | .or, .l => .or_L
  | .or, .indHL => .or_indHL
  | .or, .a => .or_A
  | .cp, .b => .cp_B
  | .cp, .c => .cp_C
  | .cp, .d => .cp_D
  | .cp, .e => .cp_E
  | .cp, .h => .cp_H
  | .cp, .l => .cp_L
  | .cp, .indHL => .cp_indHL
  | .cp, .a => .cp_A

/-- `alu[y] d8` (R85, x = 3, z = 6). -/
def Instr.aluImm (k : AluOp) (d8 : Byte) : Instr :=
  match k with
  | .add => .add_A_d8 d8
  | .adc => .adc_A_d8 d8
  | .sub => .sub_d8 d8
  | .sbc => .sbc_A_d8 d8
  | .and => .and_d8 d8
  | .xor => .xor_d8 d8
  | .or => .or_d8 d8
  | .cp => .cp_d8 d8

/-- `INC r[y]` (R85, x = 0, z = 4). -/
def Instr.inc8 (k : R8) : Instr :=
  match k with
  | .b => .inc_B
  | .c => .inc_C
  | .d => .inc_D
  | .e => .inc_E
  | .h => .inc_H
  | .l => .inc_L
  | .indHL => .inc_indHL
  | .a => .inc_A

/-- `DEC r[y]` (R85, x = 0, z = 5). -/
def Instr.dec8 (k : R8) : Instr :=
  match k with
  | .b => .dec_B
  | .c => .dec_C
  | .d => .dec_D
  | .e => .dec_E
  | .h => .dec_H
  | .l => .dec_L
  | .indHL => .dec_indHL
  | .a => .dec_A

/-- `LD r[y],d8` (R85, x = 0, z = 6). -/
def Instr.ldImm8 (k : R8) (d8 : Byte) : Instr :=
  match k with
  | .b => .ld_B_d8 d8
  | .c => .ld_C_d8 d8
  | .d => .ld_D_d8 d8
  | .e => .ld_E_d8 d8
  | .h => .ld_H_d8 d8
  | .l => .ld_L_d8 d8
  | .indHL => .ld_indHL_d8 d8
  | .a => .ld_A_d8 d8

/-- `LD rp[p],d16` (R85, x = 0, z = 1, q = 0). -/
def Instr.ldImm16 (k : Rp) (d16 : Word) : Instr :=
  match k with
  | .bc => .ld_BC_d16 d16
  | .de => .ld_DE_d16 d16
  | .hl => .ld_HL_d16 d16
  | .sp => .ld_SP_d16 d16

/-- `ADD HL,rp[p]` (R85, x = 0, z = 1, q = 1). -/
def Instr.addHl (k : Rp) : Instr :=
  match k with
  | .bc => .add_HL_BC
  | .de => .add_HL_DE
  | .hl => .add_HL_HL
  | .sp => .add_HL_SP

/-- `INC rp[p]` (R85, x = 0, z = 3, q = 0). -/
def Instr.inc16 (k : Rp) : Instr :=
  match k with
  | .bc => .inc_BC
  | .de => .inc_DE
  | .hl => .inc_HL
  | .sp => .inc_SP

/-- `DEC rp[p]` (R85, x = 0, z = 3, q = 1). -/
def Instr.dec16 (k : Rp) : Instr :=
  match k with
  | .bc => .dec_BC
  | .de => .dec_DE
  | .hl => .dec_HL
  | .sp => .dec_SP

/-- `PUSH rp2[p]` (R85, x = 3, z = 5, q = 0). -/
def Instr.push (k : Rp2) : Instr :=
  match k with
  | .bc => .push_BC
  | .de => .push_DE
  | .hl => .push_HL
  | .af => .push_AF

/-- `POP rp2[p]` (R85, x = 3, z = 1, q = 0). -/
def Instr.pop (k : Rp2) : Instr :=
  match k with
  | .bc => .pop_BC
  | .de => .pop_DE
  | .hl => .pop_HL
  | .af => .pop_AF

/-- `JR cc,e8` (R85, x = 0, z = 0). -/
def Instr.jrCond (k : Cond) (e8 : Byte) : Instr :=
  match k with
  | .nz => .jr_NZ_e8 e8
  | .z => .jr_Z_e8 e8
  | .nc => .jr_NC_e8 e8
  | .c => .jr_C_e8 e8

/-- `JP cc,a16` (R85, x = 3, z = 2). -/
def Instr.jpCond (k : Cond) (a16 : Word) : Instr :=
  match k with
  | .nz => .jp_NZ_a16 a16
  | .z => .jp_Z_a16 a16
  | .nc => .jp_NC_a16 a16
  | .c => .jp_C_a16 a16

/-- `CALL cc,a16` (R85, x = 3, z = 4). -/
def Instr.callCond (k : Cond) (a16 : Word) : Instr :=
  match k with
  | .nz => .call_NZ_a16 a16
  | .z => .call_Z_a16 a16
  | .nc => .call_NC_a16 a16
  | .c => .call_C_a16 a16

/-- `RET cc` (R85, x = 3, z = 0). -/
def Instr.retCond (k : Cond) : Instr :=
  match k with
  | .nz => .ret_NZ
  | .z => .ret_Z
  | .nc => .ret_NC
  | .c => .ret_C

/-- `RST` with target `y*8` (R85, x = 3, z = 7). -/
def Instr.rst (k : Idx3) : Instr :=
  match k with
  | .i0 => .rst_00
  | .i1 => .rst_08
  | .i2 => .rst_10
  | .i3 => .rst_18
  | .i4 => .rst_20
  | .i5 => .rst_28
  | .i6 => .rst_30
  | .i7 => .rst_38

/-- `rot[y] r[z]`, extended table (R83, x = 0). -/
def Instr.rot (k : RotOp) (r : R8) : Instr :=
  match k, r with
  | .rlc, .b => .rlc_B
  | .rlc, .c => .rlc_C
  | .rlc, .d => .rlc_D
  | .rlc, .e => .rlc_E
  | .rlc, .h => .rlc_H
  | .rlc, .l => .rlc_L
  | .rlc, .indHL => .rlc_indHL
  | .rlc, .a => .rlc_A
  | .rrc, .b => .rrc_B
  | .rrc, .c => .rrc_C
  | .rrc, .d => .rrc_D
  | .rrc, .e => .rrc_E
  | .rrc, .h => .rrc_H
  | .rrc, .l => .rrc_L
  | .rrc, .indHL => .rrc_indHL
  | .rrc, .a => .rrc_A
  | .rl, .b => .rl_B
  | .rl, .c => .rl_C
  | .rl, .d => .rl_D
  | .rl, .e => .rl_E
  | .rl, .h => .rl_H
  | .rl, .l => .rl_L
  | .rl, .indHL => .rl_indHL
  | .rl, .a => .rl_A
  | .rr, .b => .rr_B
  | .rr, .c => .rr_C
  | .rr, .d => .rr_D
  | .rr, .e => .rr_E
  | .rr, .h => .rr_H
  | .rr, .l => .rr_L
  | .rr, .indHL => .rr_indHL
  | .rr, .a => .rr_A
  | .sla, .b => .sla_B
  | .sla, .c => .sla_C
  | .sla, .d => .sla_D
  | .sla, .e => .sla_E
  | .sla, .h => .sla_H
  | .sla, .l => .sla_L
  | .sla, .indHL => .sla_indHL
  | .sla, .a => .sla_A
  | .sra, .b => .sra_B
  | .sra, .c => .sra_C
  | .sra, .d => .sra_D
  | .sra, .e => .sra_E
  | .sra, .h => .sra_H
  | .sra, .l => .sra_L
  | .sra, .indHL => .sra_indHL
  | .sra, .a => .sra_A
  | .swap, .b => .swap_B
  | .swap, .c => .swap_C
  | .swap, .d => .swap_D
  | .swap, .e => .swap_E
  | .swap, .h => .swap_H
  | .swap, .l => .swap_L
  | .swap, .indHL => .swap_indHL
  | .swap, .a => .swap_A
  | .srl, .b => .srl_B
  | .srl, .c => .srl_C
  | .srl, .d => .srl_D
  | .srl, .e => .srl_E
  | .srl, .h => .srl_H
  | .srl, .l => .srl_L
  | .srl, .indHL => .srl_indHL
  | .srl, .a => .srl_A

/-- `BIT y,r[z]`, extended table (R83, x = 1). -/
def Instr.bit (k : Idx3) (r : R8) : Instr :=
  match k, r with
  | .i0, .b => .bit_0_B
  | .i0, .c => .bit_0_C
  | .i0, .d => .bit_0_D
  | .i0, .e => .bit_0_E
  | .i0, .h => .bit_0_H
  | .i0, .l => .bit_0_L
  | .i0, .indHL => .bit_0_indHL
  | .i0, .a => .bit_0_A
  | .i1, .b => .bit_1_B
  | .i1, .c => .bit_1_C
  | .i1, .d => .bit_1_D
  | .i1, .e => .bit_1_E
  | .i1, .h => .bit_1_H
  | .i1, .l => .bit_1_L
  | .i1, .indHL => .bit_1_indHL
  | .i1, .a => .bit_1_A
  | .i2, .b => .bit_2_B
  | .i2, .c => .bit_2_C
  | .i2, .d => .bit_2_D
  | .i2, .e => .bit_2_E
  | .i2, .h => .bit_2_H
  | .i2, .l => .bit_2_L
  | .i2, .indHL => .bit_2_indHL
  | .i2, .a => .bit_2_A
  | .i3, .b => .bit_3_B
  | .i3, .c => .bit_3_C
  | .i3, .d => .bit_3_D
  | .i3, .e => .bit_3_E
  | .i3, .h => .bit_3_H
  | .i3, .l => .bit_3_L
  | .i3, .indHL => .bit_3_indHL
  | .i3, .a => .bit_3_A
  | .i4, .b => .bit_4_B
  | .i4, .c => .bit_4_C
  | .i4, .d => .bit_4_D
  | .i4, .e => .bit_4_E
  | .i4, .h => .bit_4_H
  | .i4, .l => .bit_4_L
  | .i4, .indHL => .bit_4_indHL
  | .i4, .a => .bit_4_A
  | .i5, .b => .bit_5_B
  | .i5, .c => .bit_5_C
  | .i5, .d => .bit_5_D
  | .i5, .e => .bit_5_E
  | .i5, .h => .bit_5_H
  | .i5, .l => .bit_5_L
  | .i5, .indHL => .bit_5_indHL
  | .i5, .a => .bit_5_A
  | .i6, .b => .bit_6_B
  | .i6, .c => .bit_6_C
  | .i6, .d => .bit_6_D
  | .i6, .e => .bit_6_E
  | .i6, .h => .bit_6_H
  | .i6, .l => .bit_6_L
  | .i6, .indHL => .bit_6_indHL
  | .i6, .a => .bit_6_A
  | .i7, .b => .bit_7_B
  | .i7, .c => .bit_7_C
  | .i7, .d => .bit_7_D
  | .i7, .e => .bit_7_E
  | .i7, .h => .bit_7_H
  | .i7, .l => .bit_7_L
  | .i7, .indHL => .bit_7_indHL
  | .i7, .a => .bit_7_A

/-- `RES y,r[z]`, extended table (R83, x = 2). -/
def Instr.res (k : Idx3) (r : R8) : Instr :=
  match k, r with
  | .i0, .b => .res_0_B
  | .i0, .c => .res_0_C
  | .i0, .d => .res_0_D
  | .i0, .e => .res_0_E
  | .i0, .h => .res_0_H
  | .i0, .l => .res_0_L
  | .i0, .indHL => .res_0_indHL
  | .i0, .a => .res_0_A
  | .i1, .b => .res_1_B
  | .i1, .c => .res_1_C
  | .i1, .d => .res_1_D
  | .i1, .e => .res_1_E
  | .i1, .h => .res_1_H
  | .i1, .l => .res_1_L
  | .i1, .indHL => .res_1_indHL
  | .i1, .a => .res_1_A
  | .i2, .b => .res_2_B
  | .i2, .c => .res_2_C
  | .i2, .d => .res_2_D
  | .i2, .e => .res_2_E
  | .i2, .h => .res_2_H
  | .i2, .l => .res_2_L
  | .i2, .indHL => .res_2_indHL
  | .i2, .a => .res_2_A
  | .i3, .b => .res_3_B
  | .i3, .c => .res_3_C
  | .i3, .d => .res_3_D
  | .i3, .e => .res_3_E
  | .i3, .h => .res_3_H
  | .i3, .l => .res_3_L
  | .i3, .indHL => .res_3_indHL
  | .i3, .a => .res_3_A
  | .i4, .b => .res_4_B
  | .i4, .c => .res_4_C
  | .i4, .d => .res_4_D
  | .i4, .e => .res_4_E
  | .i4, .h => .res_4_H
  | .i4, .l => .res_4_L
  | .i4, .indHL => .res_4_indHL
  | .i4, .a => .res_4_A
  | .i5, .b => .res_5_B
  | .i5, .c => .res_5_C
  | .i5, .d => .res_5_D
  | .i5, .e => .res_5_E
  | .i5, .h => .res_5_H
  | .i5, .l => .res_5_L
  | .i5, .indHL => .res_5_indHL
  | .i5, .a => .res_5_A
  | .i6, .b => .res_6_B
  | .i6, .c => .res_6_C
  | .i6, .d => .res_6_D
  | .i6, .e => .res_6_E
  | .i6, .h => .res_6_H
  | .i6, .l => .res_6_L
  | .i6, .indHL => .res_6_indHL
  | .i6, .a => .res_6_A
  | .i7, .b => .res_7_B
  | .i7, .c => .res_7_C
  | .i7, .d => .res_7_D
  | .i7, .e => .res_7_E
  | .i7, .h => .res_7_H
  | .i7, .l => .res_7_L
  | .i7, .indHL => .res_7_indHL
  | .i7, .a => .res_7_A

/-- `SET y,r[z]`, extended table (R83, x = 3). -/
def Instr.set (k : Idx3) (r : R8) : Instr :=
  match k, r with
  | .i0, .b => .set_0_B
  | .i0, .c => .set_0_C
  | .i0, .d => .set_0_D
  | .i0, .e => .set_0_E
  | .i0, .h => .set_0_H
  | .i0, .l => .set_0_L
  | .i0, .indHL => .set_0_indHL
  | .i0, .a => .set_0_A
  | .i1, .b => .set_1_B
  | .i1, .c => .set_1_C
  | .i1, .d => .set_1_D
  | .i1, .e => .set_1_E
  | .i1, .h => .set_1_H
  | .i1, .l => .set_1_L
  | .i1, .indHL => .set_1_indHL
  | .i1, .a => .set_1_A
  | .i2, .b => .set_2_B
  | .i2, .c => .set_2_C
  | .i2, .d => .set_2_D
  | .i2, .e => .set_2_E
  | .i2, .h => .set_2_H
  | .i2, .l => .set_2_L
  | .i2, .indHL => .set_2_indHL
  | .i2, .a => .set_2_A
  | .i3, .b => .set_3_B
  | .i3, .c => .set_3_C
  | .i3, .d => .set_3_D
  | .i3, .e => .set_3_E
  | .i3, .h => .set_3_H
  | .i3, .l => .set_3_L
  | .i3, .indHL => .set_3_indHL
  | .i3, .a => .set_3_A
  | .i4, .b => .set_4_B
  | .i4, .c => .set_4_C
  | .i4, .d => .set_4_D
  | .i4, .e => .set_4_E
  | .i4, .h => .set_4_H
  | .i4, .l => .set_4_L
  | .i4, .indHL => .set_4_indHL
  | .i4, .a => .set_4_A
  | .i5, .b => .set_5_B
  | .i5, .c => .set_5_C
  | .i5, .d => .set_5_D
  | .i5, .e => .set_5_E
  | .i5, .h => .set_5_H
  | .i5, .l => .set_5_L
  | .i5, .indHL => .set_5_indHL
  | .i5, .a => .set_5_A
  | .i6, .b => .set_6_B
  | .i6, .c => .set_6_C
  | .i6, .d => .set_6_D
  | .i6, .e => .set_6_E
  | .i6, .h => .set_6_H
  | .i6, .l => .set_6_L
  | .i6, .indHL => .set_6_indHL
  | .i6, .a => .set_6_A
  | .i7, .b => .set_7_B
  | .i7, .c => .set_7_C
  | .i7, .d => .set_7_D
  | .i7, .e => .set_7_E
  | .i7, .h => .set_7_H
  | .i7, .l => .set_7_L
  | .i7, .indHL => .set_7_indHL
  | .i7, .a => .set_7_A

/-! ### The decoder -/

/-- What a primary table entry is: an instruction that is complete with its opcode, or one that its operand byte or its
operand word (low byte first) completes. -/
inductive Row where
  | plain (i : Instr)
  | byte (f : Byte → Instr)
  | word (f : Word → Instr)

/-- The primary table's quarter x = 0 (R85). -/
def rowX0 (y z : Nat) : Row :=
  match z with
  | 0 =>
    match y with
    | 0 => .plain .nop
    | 1 => .word .ld_indA16_SP
    | 2 => .plain .stop
    | 3 => .byte .jr_e8
    | _ => .byte (Instr.jrCond (Cond.ofCode (y - 4)))
  | 1 => if y % 2 = 0 then .word (Instr.ldImm16 (Rp.ofCode (y / 2))) else .plain (Instr.addHl (Rp.ofCode (y / 2)))
  | 2 =>
    match y with
    | 0 => .plain .ld_indBC_A
    | 1 => .plain .ld_A_indBC
    | 2 => .plain .ld_indDE_A
    | 3 => .plain .ld_A_indDE
    | 4 => .plain .ldi_indHL_A
    | 5 => .plain .ldi_A_indHL
    | 6 => .plain .ldd_indHL_A
    | _ => .plain .ldd_A_indHL
  | 3 => .plain (if y % 2 = 0 then Instr.inc16 (Rp.ofCode (y / 2)) else Instr.dec16 (Rp.ofCode (y / 2)))
  | 4 => .plain (Instr.inc8 (R8.ofCode y))
  | 5 => .plain (Instr.dec8 (R8.ofCode y))
  | 6 => .byte (Instr.ldImm8 (R8.ofCode y))
  | _ =>
    match y with
    | 0 => .plain .rlca
    | 1 => .plain .rrca
    | 2 => .plain .rla
    | 3 => .plain .rra
    | 4 => .plain .daa
    | 5 => .plain .cpl
    | 6 => .plain .scf
    | _ => .plain .ccf

/-- The primary table's quarter x = 3 (R85). -/
def rowX3 (y z : Nat) : Row :=
  match z with
  | 0 =>
    match y with
    | 4 => .byte .ldh_indA8_A
    | 5 => .byte .add_SP_e8
    | 6 => .byte .ldh_A_indA8
    | 7 => .byte .ld_HL_SP_e8
    | _ => .plain (Instr.retCond (Cond.ofCode y))
  | 1 =>
    match y with
    | 1 => .plain .ret
    | 3 => .plain .reti
    | 5 => .plain .jp_HL
    | 7 => .plain .ld_SP_HL
    | _ => .plain (Instr.pop (Rp2.ofCode (y / 2)))
  | 2 =>
    match y with
    | 4 => .plain .ld_indC_A
    | 5 => .word .ld_indA16_A
    | 6 => .plain .ld_A_indC
    | 7 => .word .ld_A_indA16
    | _ => .word (Instr.jpCond (Cond.ofCode y))
  | 3 =>
    match y with
    | 0 => .word .jp_a16
    | 1 => .plain .prefix_CB
    | 2 => .plain .illegal_D3
    | 3 => .plain .illegal_DB
    | 4 => .plain .illegal_E3
    | 5 => .plain .illegal_EB
    | 6 => .plain .di
    | _ => .plain .ei
  | 4 =>
    match y with
    | 4 => .plain .illegal_E4
    | 5 => .plain .illegal_EC
    | 6 => .plain .illegal_F4
    | 7 => .plain .illegal_FC
    | _ => .word (Instr.callCond (Cond.ofCode y))
  | 5 =>
    match y with
    | 1 => .word .call_a16
    | 3 => .plain .illegal_DD
    | 5 => .plain .illegal_ED
    | 7 => .plain .illegal_FD
    | _ => .plain (Instr.push (Rp2.ofCode (y / 2)))
  | 6 => .byte (Instr.aluImm (AluOp.ofCode y))
  | _ => .plain (Instr.rst (Idx3.ofCode y))

/-- The primary table (R84, R85). The entry of the prefix byte is never consulted (R256). -/
def primaryRow (op : Byte) : Row :=
  match fieldX op with
  | 0 => rowX0 (fieldY op) (fieldZ op)
  | 1 => .plain (Instr.ld8 (R8.ofCode (fieldY op)) (R8.ofCode (fieldZ op)))
  | 2 => .plain (Instr.alu (AluOp.ofCode (fieldY op)) (R8.ofCode (fieldZ op)))
  | _ => rowX3 (fieldY op) (fieldZ op)

/-- The extended table: all 256 entries hold an instruction (R83). -/
def extendedInstr (op : Byte) : Instr :=
  match fieldX op with
  | 0 => Instr.rot (RotOp.ofCode (fieldY op)) (R8.ofCode (fieldZ op))
  | 1 => Instr.bit (Idx3.ofCode (fieldY op)) (R8.ofCode (fieldZ op))
  | 2 => Instr.res (Idx3.ofCode (fieldY op)) (R8.ofCode (fieldZ op))
  | _ => Instr.set (Idx3.ofCode (fieldY op)) (R8.ofCode (fieldZ op))

/-- Why bytes hold no instruction: they end before it does. There is no other reason, since every byte has an entry in
its table (R88, R89). -/
inductive DecodeError where
  /-- There is no byte at all. -/
  | noOpcode
  /-- The bytes end after the extended prefix (R80, R256). -/
  | noExtendedOpcode
  /-- The bytes end before the last operand byte of the opcode (R81). -/
  | noOperand (op : Byte)
deriving DecidableEq, Repr

/-- The decoder: the instruction that begins the bytes, and the bytes after it (R80, R81, R86). -/
def decode (bytes : List Byte) : Except DecodeError (Instr × List Byte) :=
  match bytes with
  | [] => .error .noOpcode
  | op :: rest =>
    if op = extPrefix then
      match rest with
      | [] => .error .noExtendedOpcode
      | ext :: rest' => .ok (extendedInstr ext, rest')
    else
      match primaryRow op with
      | .plain i => .ok (i, rest)
      | .byte f =>
        match rest with
        | n :: rest' => .ok (f n, rest')
        | [] => .error (.noOperand op)
      | .word f =>
        match rest with
        | lo :: hi :: rest' => .ok (f (wordOf hi lo), rest')
        | _ => .error (.noOperand op)

/-- The decoder on three bytes, as many as the longest instruction has (R80): it always reads an instruction. -/
def decodeWindow (b0 b1 b2 : Byte) : Instr :=
  if b0 = extPrefix then extendedInstr b1
  else
    match primaryRow b0 with
    | .plain i => i
    | .byte f => f b1
    | .word f => f (wordOf b2 b1)

/-- The instruction the decoder reads from `nbits` bits numbered from bit 0 of the first byte on, every later bit zero.
The first byte is bits 7 to 0, the byte at the next address bits 15 to 8. -/
def decodeTableWord (nbits w : Nat) : Option Instr :=
  let bits := w % 2 ^ nbits
  some (decodeWindow (BitVec.ofNat 8 bits) (BitVec.ofNat 8 (bits / 256)) (BitVec.ofNat 8 (bits / 65536)))

/-! ### The encoder, from the table form (R84, R83) -/

/-- The bytes of an instruction, in increasing address order (R81, R84, R86). The prefix row's one byte is 0xCB. -/
def encode (i : Instr) : List Byte :=
  match i with
  | .nop => [0x00]
  | .ld_BC_d16 d16 => [0x01, loByte d16, hiByte d16]
  | .ld_indBC_A => [0x02]
  | .inc_BC => [0x03]
  | .inc_B => [0x04]
  | .dec_B => [0x05]
  | .ld_B_d8 d8 => [0x06, d8]
  | .rlca => [0x07]
  | .ld_indA16_SP a16 => [0x08, loByte a16, hiByte a16]
  | .add_HL_BC => [0x09]
  | .ld_A_indBC => [0x0A]
  | .dec_BC => [0x0B]
  | .inc_C => [0x0C]
  | .dec_C => [0x0D]
  | .ld_C_d8 d8 => [0x0E, d8]
  | .rrca => [0x0F]
  | .stop => [0x10]
  | .ld_DE_d16 d16 => [0x11, loByte d16, hiByte d16]
  | .ld_indDE_A => [0x12]
  | .inc_DE => [0x13]
  | .inc_D => [0x14]
  | .dec_D => [0x15]
  | .ld_D_d8 d8 => [0x16, d8]
  | .rla => [0x17]
  | .jr_e8 e8 => [0x18, e8]
  | .add_HL_DE => [0x19]
  | .ld_A_indDE => [0x1A]
  | .dec_DE => [0x1B]
  | .inc_E => [0x1C]
  | .dec_E => [0x1D]
  | .ld_E_d8 d8 => [0x1E, d8]
  | .rra => [0x1F]
  | .jr_NZ_e8 e8 => [0x20, e8]
  | .ld_HL_d16 d16 => [0x21, loByte d16, hiByte d16]
  | .ldi_indHL_A => [0x22]
  | .inc_HL => [0x23]
  | .inc_H => [0x24]
  | .dec_H => [0x25]
  | .ld_H_d8 d8 => [0x26, d8]
  | .daa => [0x27]
  | .jr_Z_e8 e8 => [0x28, e8]
  | .add_HL_HL => [0x29]
  | .ldi_A_indHL => [0x2A]
  | .dec_HL => [0x2B]
  | .inc_L => [0x2C]
  | .dec_L => [0x2D]
  | .ld_L_d8 d8 => [0x2E, d8]
  | .cpl => [0x2F]
  | .jr_NC_e8 e8 => [0x30, e8]
  | .ld_SP_d16 d16 => [0x31, loByte d16, hiByte d16]
  | .ldd_indHL_A => [0x32]
  | .inc_SP => [0x33]
  | .inc_indHL => [0x34]
  | .dec_indHL => [0x35]
  | .ld_indHL_d8 d8 => [0x36, d8]
  | .scf => [0x37]
  | .jr_C_e8 e8 => [0x38, e8]
  | .add_HL_SP => [0x39]
  | .ldd_A_indHL => [0x3A]
  | .dec_SP => [0x3B]
  | .inc_A => [0x3C]
  | .dec_A => [0x3D]
  | .ld_A_d8 d8 => [0x3E, d8]
  | .ccf => [0x3F]
  | .ld_B_B => [0x40]
  | .ld_B_C => [0x41]
  | .ld_B_D => [0x42]
  | .ld_B_E => [0x43]
  | .ld_B_H => [0x44]
  | .ld_B_L => [0x45]
  | .ld_B_indHL => [0x46]
  | .ld_B_A => [0x47]
  | .ld_C_B => [0x48]
  | .ld_C_C => [0x49]
  | .ld_C_D => [0x4A]
  | .ld_C_E => [0x4B]
  | .ld_C_H => [0x4C]
  | .ld_C_L => [0x4D]
  | .ld_C_indHL => [0x4E]
  | .ld_C_A => [0x4F]
  | .ld_D_B => [0x50]
  | .ld_D_C => [0x51]
  | .ld_D_D => [0x52]
  | .ld_D_E => [0x53]
  | .ld_D_H => [0x54]
  | .ld_D_L => [0x55]
  | .ld_D_indHL => [0x56]
  | .ld_D_A => [0x57]
  | .ld_E_B => [0x58]
  | .ld_E_C => [0x59]
  | .ld_E_D => [0x5A]
  | .ld_E_E => [0x5B]
  | .ld_E_H => [0x5C]
  | .ld_E_L => [0x5D]
  | .ld_E_indHL => [0x5E]
  | .ld_E_A => [0x5F]
  | .ld_H_B => [0x60]
  | .ld_H_C => [0x61]
  | .ld_H_D => [0x62]
  | .ld_H_E => [0x63]
  | .ld_H_H => [0x64]
  | .ld_H_L => [0x65]
  | .ld_H_indHL => [0x66]
  | .ld_H_A => [0x67]
  | .ld_L_B => [0x68]
  | .ld_L_C => [0x69]
  | .ld_L_D => [0x6A]
  | .ld_L_E => [0x6B]
  | .ld_L_H => [0x6C]
  | .ld_L_L => [0x6D]
  | .ld_L_indHL => [0x6E]
  | .ld_L_A => [0x6F]
  | .ld_indHL_B => [0x70]
  | .ld_indHL_C => [0x71]
  | .ld_indHL_D => [0x72]
  | .ld_indHL_E => [0x73]
  | .ld_indHL_H => [0x74]
  | .ld_indHL_L => [0x75]
  | .halt => [0x76]
  | .ld_indHL_A => [0x77]
  | .ld_A_B => [0x78]
  | .ld_A_C => [0x79]
  | .ld_A_D => [0x7A]
  | .ld_A_E => [0x7B]
  | .ld_A_H => [0x7C]
  | .ld_A_L => [0x7D]
  | .ld_A_indHL => [0x7E]
  | .ld_A_A => [0x7F]
  | .add_A_B => [0x80]
  | .add_A_C => [0x81]
  | .add_A_D => [0x82]
  | .add_A_E => [0x83]
  | .add_A_H => [0x84]
  | .add_A_L => [0x85]
  | .add_A_indHL => [0x86]
  | .add_A_A => [0x87]
  | .adc_A_B => [0x88]
  | .adc_A_C => [0x89]
  | .adc_A_D => [0x8A]
  | .adc_A_E => [0x8B]
  | .adc_A_H => [0x8C]
  | .adc_A_L => [0x8D]
  | .adc_A_indHL => [0x8E]
  | .adc_A_A => [0x8F]
  | .sub_B => [0x90]
  | .sub_C => [0x91]
  | .sub_D => [0x92]
  | .sub_E => [0x93]
  | .sub_H => [0x94]
  | .sub_L => [0x95]
  | .sub_indHL => [0x96]
  | .sub_A => [0x97]
  | .sbc_A_B => [0x98]
  | .sbc_A_C => [0x99]
  | .sbc_A_D => [0x9A]
  | .sbc_A_E => [0x9B]
  | .sbc_A_H => [0x9C]
  | .sbc_A_L => [0x9D]
  | .sbc_A_indHL => [0x9E]
  | .sbc_A_A => [0x9F]
  | .and_B => [0xA0]
  | .and_C => [0xA1]
  | .and_D => [0xA2]
  | .and_E => [0xA3]
  | .and_H => [0xA4]
  | .and_L => [0xA5]
  | .and_indHL => [0xA6]
  | .and_A => [0xA7]
  | .xor_B => [0xA8]
  | .xor_C => [0xA9]
  | .xor_D => [0xAA]
  | .xor_E => [0xAB]
  | .xor_H => [0xAC]
  | .xor_L => [0xAD]
  | .xor_indHL => [0xAE]
  | .xor_A => [0xAF]
  | .or_B => [0xB0]
  | .or_C => [0xB1]
  | .or_D => [0xB2]
  | .or_E => [0xB3]
  | .or_H => [0xB4]
  | .or_L => [0xB5]
  | .or_indHL => [0xB6]
  | .or_A => [0xB7]
  | .cp_B => [0xB8]
  | .cp_C => [0xB9]
  | .cp_D => [0xBA]
  | .cp_E => [0xBB]
  | .cp_H => [0xBC]
  | .cp_L => [0xBD]
  | .cp_indHL => [0xBE]
  | .cp_A => [0xBF]
  | .ret_NZ => [0xC0]
  | .pop_BC => [0xC1]
  | .jp_NZ_a16 a16 => [0xC2, loByte a16, hiByte a16]
  | .jp_a16 a16 => [0xC3, loByte a16, hiByte a16]
  | .call_NZ_a16 a16 => [0xC4, loByte a16, hiByte a16]
  | .push_BC => [0xC5]
  | .add_A_d8 d8 => [0xC6, d8]
  | .rst_00 => [0xC7]
  | .ret_Z => [0xC8]
  | .ret => [0xC9]
  | .jp_Z_a16 a16 => [0xCA, loByte a16, hiByte a16]
  | .prefix_CB => [0xCB]
  | .call_Z_a16 a16 => [0xCC, loByte a16, hiByte a16]
  | .call_a16 a16 => [0xCD, loByte a16, hiByte a16]
  | .adc_A_d8 d8 => [0xCE, d8]
  | .rst_08 => [0xCF]
  | .ret_NC => [0xD0]
  | .pop_DE => [0xD1]
  | .jp_NC_a16 a16 => [0xD2, loByte a16, hiByte a16]
  | .illegal_D3 => [0xD3]
  | .call_NC_a16 a16 => [0xD4, loByte a16, hiByte a16]
  | .push_DE => [0xD5]
  | .sub_d8 d8 => [0xD6, d8]
  | .rst_10 => [0xD7]
  | .ret_C => [0xD8]
  | .reti => [0xD9]
  | .jp_C_a16 a16 => [0xDA, loByte a16, hiByte a16]
  | .illegal_DB => [0xDB]
  | .call_C_a16 a16 => [0xDC, loByte a16, hiByte a16]
  | .illegal_DD => [0xDD]
  | .sbc_A_d8 d8 => [0xDE, d8]
  | .rst_18 => [0xDF]
  | .ldh_indA8_A a8 => [0xE0, a8]
  | .pop_HL => [0xE1]
  | .ld_indC_A => [0xE2]
  | .illegal_E3 => [0xE3]
  | .illegal_E4 => [0xE4]
  | .push_HL => [0xE5]
  | .and_d8 d8 => [0xE6, d8]
  | .rst_20 => [0xE7]
  | .add_SP_e8 e8 => [0xE8, e8]
  | .jp_HL => [0xE9]
  | .ld_indA16_A a16 => [0xEA, loByte a16, hiByte a16]
  | .illegal_EB => [0xEB]
  | .illegal_EC => [0xEC]
  | .illegal_ED => [0xED]
  | .xor_d8 d8 => [0xEE, d8]
  | .rst_28 => [0xEF]
  | .ldh_A_indA8 a8 => [0xF0, a8]
  | .pop_AF => [0xF1]
  | .ld_A_indC => [0xF2]
  | .di => [0xF3]
  | .illegal_F4 => [0xF4]
  | .push_AF => [0xF5]
  | .or_d8 d8 => [0xF6, d8]
  | .rst_30 => [0xF7]
  | .ld_HL_SP_e8 e8 => [0xF8, e8]
  | .ld_SP_HL => [0xF9]
  | .ld_A_indA16 a16 => [0xFA, loByte a16, hiByte a16]
  | .ei => [0xFB]
  | .illegal_FC => [0xFC]
  | .illegal_FD => [0xFD]
  | .cp_d8 d8 => [0xFE, d8]
  | .rst_38 => [0xFF]
  | .rlc_B => [0xCB, 0x00]
  | .rlc_C => [0xCB, 0x01]
  | .rlc_D => [0xCB, 0x02]
  | .rlc_E => [0xCB, 0x03]
  | .rlc_H => [0xCB, 0x04]
  | .rlc_L => [0xCB, 0x05]
  | .rlc_indHL => [0xCB, 0x06]
  | .rlc_A => [0xCB, 0x07]
  | .rrc_B => [0xCB, 0x08]
  | .rrc_C => [0xCB, 0x09]
  | .rrc_D => [0xCB, 0x0A]
  | .rrc_E => [0xCB, 0x0B]
  | .rrc_H => [0xCB, 0x0C]
  | .rrc_L => [0xCB, 0x0D]
  | .rrc_indHL => [0xCB, 0x0E]
  | .rrc_A => [0xCB, 0x0F]
  | .rl_B => [0xCB, 0x10]
  | .rl_C => [0xCB, 0x11]
  | .rl_D => [0xCB, 0x12]
  | .rl_E => [0xCB, 0x13]
  | .rl_H => [0xCB, 0x14]
  | .rl_L => [0xCB, 0x15]
  | .rl_indHL => [0xCB, 0x16]
  | .rl_A => [0xCB, 0x17]
  | .rr_B => [0xCB, 0x18]
  | .rr_C => [0xCB, 0x19]
  | .rr_D => [0xCB, 0x1A]
  | .rr_E => [0xCB, 0x1B]
  | .rr_H => [0xCB, 0x1C]
  | .rr_L => [0xCB, 0x1D]
  | .rr_indHL => [0xCB, 0x1E]
  | .rr_A => [0xCB, 0x1F]
  | .sla_B => [0xCB, 0x20]
  | .sla_C => [0xCB, 0x21]
  | .sla_D => [0xCB, 0x22]
  | .sla_E => [0xCB, 0x23]
  | .sla_H => [0xCB, 0x24]
  | .sla_L => [0xCB, 0x25]
  | .sla_indHL => [0xCB, 0x26]
  | .sla_A => [0xCB, 0x27]
  | .sra_B => [0xCB, 0x28]
  | .sra_C => [0xCB, 0x29]
  | .sra_D => [0xCB, 0x2A]
  | .sra_E => [0xCB, 0x2B]
  | .sra_H => [0xCB, 0x2C]
  | .sra_L => [0xCB, 0x2D]
  | .sra_indHL => [0xCB, 0x2E]
  | .sra_A => [0xCB, 0x2F]
  | .swap_B => [0xCB, 0x30]
  | .swap_C => [0xCB, 0x31]
  | .swap_D => [0xCB, 0x32]
  | .swap_E => [0xCB, 0x33]
  | .swap_H => [0xCB, 0x34]
  | .swap_L => [0xCB, 0x35]
  | .swap_indHL => [0xCB, 0x36]
  | .swap_A => [0xCB, 0x37]
  | .srl_B => [0xCB, 0x38]
  | .srl_C => [0xCB, 0x39]
  | .srl_D => [0xCB, 0x3A]
  | .srl_E => [0xCB, 0x3B]
  | .srl_H => [0xCB, 0x3C]
  | .srl_L => [0xCB, 0x3D]
  | .srl_indHL => [0xCB, 0x3E]
  | .srl_A => [0xCB, 0x3F]
  | .bit_0_B => [0xCB, 0x40]
  | .bit_0_C => [0xCB, 0x41]
  | .bit_0_D => [0xCB, 0x42]
  | .bit_0_E => [0xCB, 0x43]
  | .bit_0_H => [0xCB, 0x44]
  | .bit_0_L => [0xCB, 0x45]
  | .bit_0_indHL => [0xCB, 0x46]
  | .bit_0_A => [0xCB, 0x47]
  | .bit_1_B => [0xCB, 0x48]
  | .bit_1_C => [0xCB, 0x49]
  | .bit_1_D => [0xCB, 0x4A]
  | .bit_1_E => [0xCB, 0x4B]
  | .bit_1_H => [0xCB, 0x4C]
  | .bit_1_L => [0xCB, 0x4D]
  | .bit_1_indHL => [0xCB, 0x4E]
  | .bit_1_A => [0xCB, 0x4F]
  | .bit_2_B => [0xCB, 0x50]
  | .bit_2_C => [0xCB, 0x51]
  | .bit_2_D => [0xCB, 0x52]
  | .bit_2_E => [0xCB, 0x53]
  | .bit_2_H => [0xCB, 0x54]
  | .bit_2_L => [0xCB, 0x55]
  | .bit_2_indHL => [0xCB, 0x56]
  | .bit_2_A => [0xCB, 0x57]
  | .bit_3_B => [0xCB, 0x58]
  | .bit_3_C => [0xCB, 0x59]
  | .bit_3_D => [0xCB, 0x5A]
  | .bit_3_E => [0xCB, 0x5B]
  | .bit_3_H => [0xCB, 0x5C]
  | .bit_3_L => [0xCB, 0x5D]
  | .bit_3_indHL => [0xCB, 0x5E]
  | .bit_3_A => [0xCB, 0x5F]
  | .bit_4_B => [0xCB, 0x60]
  | .bit_4_C => [0xCB, 0x61]
  | .bit_4_D => [0xCB, 0x62]
  | .bit_4_E => [0xCB, 0x63]
  | .bit_4_H => [0xCB, 0x64]
  | .bit_4_L => [0xCB, 0x65]
  | .bit_4_indHL => [0xCB, 0x66]
  | .bit_4_A => [0xCB, 0x67]
  | .bit_5_B => [0xCB, 0x68]
  | .bit_5_C => [0xCB, 0x69]
  | .bit_5_D => [0xCB, 0x6A]
  | .bit_5_E => [0xCB, 0x6B]
  | .bit_5_H => [0xCB, 0x6C]
  | .bit_5_L => [0xCB, 0x6D]
  | .bit_5_indHL => [0xCB, 0x6E]
  | .bit_5_A => [0xCB, 0x6F]
  | .bit_6_B => [0xCB, 0x70]
  | .bit_6_C => [0xCB, 0x71]
  | .bit_6_D => [0xCB, 0x72]
  | .bit_6_E => [0xCB, 0x73]
  | .bit_6_H => [0xCB, 0x74]
  | .bit_6_L => [0xCB, 0x75]
  | .bit_6_indHL => [0xCB, 0x76]
  | .bit_6_A => [0xCB, 0x77]
  | .bit_7_B => [0xCB, 0x78]
  | .bit_7_C => [0xCB, 0x79]
  | .bit_7_D => [0xCB, 0x7A]
  | .bit_7_E => [0xCB, 0x7B]
  | .bit_7_H => [0xCB, 0x7C]
  | .bit_7_L => [0xCB, 0x7D]
  | .bit_7_indHL => [0xCB, 0x7E]
  | .bit_7_A => [0xCB, 0x7F]
  | .res_0_B => [0xCB, 0x80]
  | .res_0_C => [0xCB, 0x81]
  | .res_0_D => [0xCB, 0x82]
  | .res_0_E => [0xCB, 0x83]
  | .res_0_H => [0xCB, 0x84]
  | .res_0_L => [0xCB, 0x85]
  | .res_0_indHL => [0xCB, 0x86]
  | .res_0_A => [0xCB, 0x87]
  | .res_1_B => [0xCB, 0x88]
  | .res_1_C => [0xCB, 0x89]
  | .res_1_D => [0xCB, 0x8A]
  | .res_1_E => [0xCB, 0x8B]
  | .res_1_H => [0xCB, 0x8C]
  | .res_1_L => [0xCB, 0x8D]
  | .res_1_indHL => [0xCB, 0x8E]
  | .res_1_A => [0xCB, 0x8F]
  | .res_2_B => [0xCB, 0x90]
  | .res_2_C => [0xCB, 0x91]
  | .res_2_D => [0xCB, 0x92]
  | .res_2_E => [0xCB, 0x93]
  | .res_2_H => [0xCB, 0x94]
  | .res_2_L => [0xCB, 0x95]
  | .res_2_indHL => [0xCB, 0x96]
  | .res_2_A => [0xCB, 0x97]
  | .res_3_B => [0xCB, 0x98]
  | .res_3_C => [0xCB, 0x99]
  | .res_3_D => [0xCB, 0x9A]
  | .res_3_E => [0xCB, 0x9B]
  | .res_3_H => [0xCB, 0x9C]
  | .res_3_L => [0xCB, 0x9D]
  | .res_3_indHL => [0xCB, 0x9E]
  | .res_3_A => [0xCB, 0x9F]
  | .res_4_B => [0xCB, 0xA0]
  | .res_4_C => [0xCB, 0xA1]
  | .res_4_D => [0xCB, 0xA2]
  | .res_4_E => [0xCB, 0xA3]
  | .res_4_H => [0xCB, 0xA4]
  | .res_4_L => [0xCB, 0xA5]
  | .res_4_indHL => [0xCB, 0xA6]
  | .res_4_A => [0xCB, 0xA7]
  | .res_5_B => [0xCB, 0xA8]
  | .res_5_C => [0xCB, 0xA9]
  | .res_5_D => [0xCB, 0xAA]
  | .res_5_E => [0xCB, 0xAB]
  | .res_5_H => [0xCB, 0xAC]
  | .res_5_L => [0xCB, 0xAD]
  | .res_5_indHL => [0xCB, 0xAE]
  | .res_5_A => [0xCB, 0xAF]
  | .res_6_B => [0xCB, 0xB0]
  | .res_6_C => [0xCB, 0xB1]
  | .res_6_D => [0xCB, 0xB2]
  | .res_6_E => [0xCB, 0xB3]
  | .res_6_H => [0xCB, 0xB4]
  | .res_6_L => [0xCB, 0xB5]
  | .res_6_indHL => [0xCB, 0xB6]
  | .res_6_A => [0xCB, 0xB7]
  | .res_7_B => [0xCB, 0xB8]
  | .res_7_C => [0xCB, 0xB9]
  | .res_7_D => [0xCB, 0xBA]
  | .res_7_E => [0xCB, 0xBB]
  | .res_7_H => [0xCB, 0xBC]
  | .res_7_L => [0xCB, 0xBD]
  | .res_7_indHL => [0xCB, 0xBE]
  | .res_7_A => [0xCB, 0xBF]
  | .set_0_B => [0xCB, 0xC0]
  | .set_0_C => [0xCB, 0xC1]
  | .set_0_D => [0xCB, 0xC2]
  | .set_0_E => [0xCB, 0xC3]
  | .set_0_H => [0xCB, 0xC4]
  | .set_0_L => [0xCB, 0xC5]
  | .set_0_indHL => [0xCB, 0xC6]
  | .set_0_A => [0xCB, 0xC7]
  | .set_1_B => [0xCB, 0xC8]
  | .set_1_C => [0xCB, 0xC9]
  | .set_1_D => [0xCB, 0xCA]
  | .set_1_E => [0xCB, 0xCB]
  | .set_1_H => [0xCB, 0xCC]
  | .set_1_L => [0xCB, 0xCD]
  | .set_1_indHL => [0xCB, 0xCE]
  | .set_1_A => [0xCB, 0xCF]
  | .set_2_B => [0xCB, 0xD0]
  | .set_2_C => [0xCB, 0xD1]
  | .set_2_D => [0xCB, 0xD2]
  | .set_2_E => [0xCB, 0xD3]
  | .set_2_H => [0xCB, 0xD4]
  | .set_2_L => [0xCB, 0xD5]
  | .set_2_indHL => [0xCB, 0xD6]
  | .set_2_A => [0xCB, 0xD7]
  | .set_3_B => [0xCB, 0xD8]
  | .set_3_C => [0xCB, 0xD9]
  | .set_3_D => [0xCB, 0xDA]
  | .set_3_E => [0xCB, 0xDB]
  | .set_3_H => [0xCB, 0xDC]
  | .set_3_L => [0xCB, 0xDD]
  | .set_3_indHL => [0xCB, 0xDE]
  | .set_3_A => [0xCB, 0xDF]
  | .set_4_B => [0xCB, 0xE0]
  | .set_4_C => [0xCB, 0xE1]
  | .set_4_D => [0xCB, 0xE2]
  | .set_4_E => [0xCB, 0xE3]
  | .set_4_H => [0xCB, 0xE4]
  | .set_4_L => [0xCB, 0xE5]
  | .set_4_indHL => [0xCB, 0xE6]
  | .set_4_A => [0xCB, 0xE7]
  | .set_5_B => [0xCB, 0xE8]
  | .set_5_C => [0xCB, 0xE9]
  | .set_5_D => [0xCB, 0xEA]
  | .set_5_E => [0xCB, 0xEB]
  | .set_5_H => [0xCB, 0xEC]
  | .set_5_L => [0xCB, 0xED]
  | .set_5_indHL => [0xCB, 0xEE]
  | .set_5_A => [0xCB, 0xEF]
  | .set_6_B => [0xCB, 0xF0]
  | .set_6_C => [0xCB, 0xF1]
  | .set_6_D => [0xCB, 0xF2]
  | .set_6_E => [0xCB, 0xF3]
  | .set_6_H => [0xCB, 0xF4]
  | .set_6_L => [0xCB, 0xF5]
  | .set_6_indHL => [0xCB, 0xF6]
  | .set_6_A => [0xCB, 0xF7]
  | .set_7_B => [0xCB, 0xF8]
  | .set_7_C => [0xCB, 0xF9]
  | .set_7_D => [0xCB, 0xFA]
  | .set_7_E => [0xCB, 0xFB]
  | .set_7_H => [0xCB, 0xFC]
  | .set_7_L => [0xCB, 0xFD]
  | .set_7_indHL => [0xCB, 0xFE]
  | .set_7_A => [0xCB, 0xFF]

/-- The byte that indexes the opcode table for an instruction (R41, R115): the first byte, or the second one after the
extended prefix. -/
def Instr.opcode (i : Instr) : Byte :=
  match encode i with
  | [] => 0
  | b0 :: rest => if b0 = extPrefix then rest.headD extPrefix else b0

/-- The number of bytes of an instruction (R80, R81). -/
def Instr.size (i : Instr) : Nat := (encode i).length

end Sys2Proof
end

