-- ==== Sys2Proof/Config.lean ====
section
/-!
DEFINITION. Sys2Proof/Config.lean: what is fixed for one machine and is not state (spec 00_scope.md R5, R6;
10_state.md R20, last paragraph). The extended prefix stands in Decode.lean and the special addresses in
Machine/Ops.lean, beside the definitions that use them.
-/

namespace Sys2Proof.Config

/-- The number of cells of the Address Space, indexed 0x0000 to 0xFFFF (R5, R33, R50). -/
def addressSpaceSize : Nat := 65536

/-- What a cell that nothing has written holds: every byte of memory is 0x00 at power-on (R300, R302). -/
def fillByte : Byte := 0

/-- The capacity that `State.reset` shows for the Serial Link Buffer. The spec leaves SERIAL_CAPACITY open (R6, D11);
256 is the convention of spec 95_test_vectors.md. The capacity is a field of State, so every statement holds for every
capacity and none may rest on this number. DESIGN CHOICE, unsafe to rely on: notes/assumptions/1.md. -/
def resetSerialCapacity : Nat := 256

end Sys2Proof.Config
end

