-- ==== Sys2Proof/Machine/State.lean ====
section
/-!
DEFINITION. Sys2Proof/Machine/State.lean: the state of one CPU instance as plain data (spec 10_state.md R20 to R45),
the reasons a step can stop, and the state right after reset (70_reset_and_hazards.md R300 to R302).
-/

namespace Sys2Proof.Machine

/-- The eight 8-bit register names, each a half of one of four pairs (R21, R104). -/
inductive Reg8 where
  | a | f | b | c | d | e | h | l
deriving DecidableEq, Repr

/-- The five 16-bit registers an addressing mode can name (R104, 90_conflicts.md C6). -/
inductive Reg16 where
  | af | bc | de | hl | sp
deriving DecidableEq, Repr

/-- The three fatal conditions (R260, D20). -/
inductive CrashCause where
  /-- The fetched opcode's table entry is unset (R262). -/
  | unknownOpcode
  /-- The instruction left PC at its own address (R263). -/
  | stalledPC
  /-- An interrupt dispatch for a value that is not one of the five single bits (R264). -/
  | badInterruptCombination
deriving DecidableEq, Repr

/-- The crash record `(cause, opcode, icount)` (R41). -/
structure CrashRecord where
  cause  : CrashCause
  /-- The byte that indexed the opcode table in the crashing step. -/
  opcode : Byte
  /-- The value of ICOUNT when the crash happened. -/
  icount : Nat
deriving DecidableEq, Repr

/-- The Address Space as (address, byte) pairs, in the one canonical form `Memory.wf` (Machine/Ops.lean): addresses
strictly rising and below 65536, no entry equal to `Config.fillByte`. An unlisted address reads as that byte. -/
abbrev Memory := List Host.Cell

/-- The state of one CPU instance: exactly the rows of R20, and one field that is the model's own (`serialCapacity`).
IE, IF, SB and SC are cells of `mem` (R28 to R30). -/
structure State where
  /-- Accumulator A (high) and flags F (low); the low four bits of F are always 0 in a reachable state (R24). -/
  af : Word
  /-- B (high) and C (low) (R21). -/
  bc : Word
  /-- D (high) and E (low) (R21). -/
  de : Word
  /-- H (high) and L (low) (R21). -/
  hl : Word
  /-- Stack pointer (R20, R135). -/
  sp : Word
  /-- Program counter: between steps, the address of the next instruction (R25). -/
  pc : Word
  /-- The master-enable latch IME (R27). -/
  ime : Bool
  /-- MEM, the Address Space (R33, R50). -/
  mem : Memory
  /-- CRASH: the Crashed flag with its diagnostic (R41). -/
  crash : Option CrashRecord
  /-- ICOUNT: completed instructions, unbounded (R42, D12). -/
  icount : Nat
  /-- SERIAL: the bytes of the Serial Link Buffer, oldest first (R43, R280). -/
  serial : List Byte
  /-- SERIAL_EOL: the most recently pushed byte was a newline (R43, R282). -/
  serialEol : Bool
  /-- SERIAL_CAPACITY (R6, D11), a parameter of the machine that the spec leaves open and says is not state: held here,
  written by no step, so that every statement is about every capacity (notes/assumptions/1.md). -/
  serialCapacity : Nat
deriving DecidableEq, Repr

/-- Why a step stops with a fault: there is no such reason. The machine's three fatal conditions end in the Crashed
STATE, which the step answers as a next state with `crash` set (R41, R115, R118, R260; notes/assumptions/2.md). Safe: no
behaviour of the hardware is cut off. -/
inductive Fault where
deriving DecidableEq, Repr

/-- Why a step is refused. -/
inductive Refusal where
  /-- Raised only by an arm of Machine/Dispatch.lean whose instruction has no meaning yet; safe. No arm raises it now. -/
  | notModelled (mnemonic : String)
deriving DecidableEq, Repr

/-- The state right after reset of a machine that was just powered on (R300, R301, R302): the six registers at their
post-boot values, IME 0, memory zero-filled, nothing crashed, counted or sent. -/
def State.reset : State where
  af := 0x01B0
  bc := 0x0013
  de := 0x00D8
  hl := 0x014D
  sp := 0xFFFE
  pc := 0x0100
  ime := false
  mem := []
  crash := none
  icount := 0
  serial := []
  serialEol := false
  serialCapacity := Config.resetSerialCapacity

end Sys2Proof.Machine
end

