-- ==== Sys2Proof/Machine/Ops.lean ====
section
/-!
DEFINITION. Sys2Proof/Machine/Ops.lean: the named operations over memory, registers and the stack, and taking an
exception (entering the Crashed state; interrupt entry) with the return from one beside it (spec 20_memory.md R50 to
R56, 10_state.md R20 to R30, 40_engine.md R135 to R139, 60_exceptions.md R260 to R272).
-/

namespace Sys2Proof.Machine

/-! ### Memory -/

/-- The byte at address `a` of a memory; an address it does not list holds `Config.fillByte` (R52, R300). -/
def Memory.read (m : Memory) (a : Nat) : Byte :=
  match m with
  | [] => Config.fillByte
  | (b, v) :: rest => if a = b then v else Memory.read rest a

/-- The memory without its entry for `a`. -/
def Memory.erase (m : Memory) (a : Nat) : Memory :=
  match m with
  | [] => []
  | (b, v) :: rest => if a = b then Memory.erase rest a else (b, v) :: Memory.erase rest a

/-- The memory with the entry `(a, v)` before the first larger address. -/
def Memory.insert (m : Memory) (a : Nat) (v : Byte) : Memory :=
  match m with
  | [] => [(a, v)]
  | (b, w) :: rest => if a < b then (a, v) :: (b, w) :: rest else (b, w) :: Memory.insert rest a v

/-- The memory after the plain store of `v` at `a`, in canonical form (R53). -/
def Memory.write (m : Memory) (a : Nat) (v : Byte) : Memory :=
  if v = Config.fillByte then Memory.erase m a else Memory.insert (Memory.erase m a) a v

/-- The canonical form, with every listed address at least `low`. -/
def Memory.wfFrom (low : Nat) : Memory → Bool
  | [] => true
  | (a, v) :: rest =>
    decide (low ≤ a) && decide (a < Config.addressSpaceSize) && (v != Config.fillByte) && Memory.wfFrom (a + 1) rest

/-- The one canonical form of a memory: addresses strictly rising and inside the Address Space, no entry that says
what an unlisted address says anyway. -/
def Memory.wf (m : Memory) : Bool := Memory.wfFrom 0 m

/-- `MemRead(addr, 1)` (R52). -/
def State.readByte (s : State) (a : Word) : Byte := Memory.read s.mem a.toNat

/-- `MemRead(addr, 2)`: the low byte at the lower address, `addr + 1` taken mod 65536 (R54). -/
def State.readWord (s : State) (a : Word) : Word := wordOf (s.readByte (a + 1)) (s.readByte a)

/-- `MemWrite(addr, 1, v)`: the plain store, which never runs the interrupt hook (R53). -/
def State.storeByte (s : State) (a : Word) (v : Byte) : State :=
  { s with mem := Memory.write s.mem a.toNat v }

/-- `MemWrite(addr, 2, v)`: low byte at `addr`, then high byte at `addr + 1`, both plain (R54). -/
def State.storeWord (s : State) (a : Word) (v : Word) : State :=
  (s.storeByte a (loByte v)).storeByte (a + 1) (hiByte v)

/-- 0xFF0F, the interrupt-flag register IF (R29). -/
def ifAddr : Word := 0xFF0F

/-- 0xFFFF, the interrupt-enable register IE (R28). -/
def ieAddr : Word := 0xFFFF

/-- 0xFF01, the serial data cell SB (R30). -/
def sbAddr : Word := 0xFF01

/-- 0xFF02, the serial control cell SC (R30). -/
def scAddr : Word := 0xFF02

/-! ### Registers -/

/-- `x[n]` for an 8-bit half (R21, R22). -/
def State.reg8 (s : State) (n : Reg8) : Byte :=
  match n with
  | .a => hiByte s.af
  | .f => loByte s.af
  | .b => hiByte s.bc
  | .c => loByte s.bc
  | .d => hiByte s.de
  | .e => loByte s.de
  | .h => hiByte s.hl
  | .l => loByte s.hl

/-- `x[n] <- v` for an 8-bit half: the sibling half stays; a write of F clears its low four bits (R22, R24). -/
def State.setReg8 (s : State) (n : Reg8) (v : Byte) : State :=
  match n with
  | .a => { s with af := wordOf v (loByte s.af) }
  | .f => { s with af := wordOf (hiByte s.af) (v &&& 0xF0) }
  | .b => { s with bc := wordOf v (loByte s.bc) }
  | .c => { s with bc := wordOf (hiByte s.bc) v }
  | .d => { s with de := wordOf v (loByte s.de) }
  | .e => { s with de := wordOf (hiByte s.de) v }
  | .h => { s with hl := wordOf v (loByte s.hl) }
  | .l => { s with hl := wordOf (hiByte s.hl) v }

/-- `x[n]` for a 16-bit register (R20, R21). -/
def State.reg16 (s : State) (n : Reg16) : Word :=
  match n with
  | .af => s.af
  | .bc => s.bc
  | .de => s.de
  | .hl => s.hl
  | .sp => s.sp

/-- `x[n] <- v` for a 16-bit register; a write of AF clears the low four bits of F (R22, R24, R113). -/
def State.setReg16 (s : State) (n : Reg16) (v : Word) : State :=
  match n with
  | .af => { s with af := v &&& 0xFFF0 }
  | .bc => { s with bc := v }
  | .de => { s with de := v }
  | .hl => { s with hl := v }
  | .sp => { s with sp := v }

/-- `PC <- v` (R25). -/
def State.setPc (s : State) (v : Word) : State := { s with pc := v }

/-- `PC <- (PC + n) mod 65536` (R25, D13). -/
def State.advance (s : State) (n : Word) : State := { s with pc := s.pc + n }

/-- `IME <- v` (R27). -/
def State.setIme (s : State) (v : Bool) : State := { s with ime := v }

/-! ### The stack (R135 to R139) -/

/-- `Push8(v)`: SP one lower, then a plain store at the new SP (R135). -/
def State.push8 (s : State) (v : Byte) : State :=
  ({ s with sp := s.sp - 1 } : State).storeByte (s.sp - 1) v

/-- `Pop8()`: the byte at SP, then SP one higher (R136). -/
def State.pop8 (s : State) : Byte × State :=
  (s.readByte s.sp, { s with sp := s.sp + 1 })

/-- `Push16(v)`: high byte first, so that it pops last (R137). -/
def State.push16 (s : State) (v : Word) : State := (s.push8 (hiByte v)).push8 (loByte v)

/-- `Pop16()`: low byte, then high byte (R138). -/
def State.pop16 (s : State) : Word × State :=
  let low := s.pop8
  let high := low.2.pop8
  (wordOf high.1 low.1, high.2)

/-! ### What an instruction body does: end, or raise a fatal condition -/

/-- The end of (a part of) an instruction body: it goes on in a state, or `raise Crash(cause)` abandons the rest of the
body in a state (R115, R260). -/
inductive Effect where
  | done (s : State)
  | raise (cause : CrashCause) (s : State)
deriving DecidableEq, Repr

/-- The rest of a body, run only if nothing was raised so far (R260). -/
def Effect.andThen (e : Effect) (rest : State → Effect) : Effect :=
  match e with
  | .done s => rest s
  | .raise cause s => .raise cause s

/-! ### Taking an exception: the Crashed state and interrupt entry -/

/-- `CRASH <- (cause, op, ICOUNT)`: entering the Crashed state; `op` is the byte that indexed the opcode table (R41,
R115, R260). PC stays as the raising rule left it. -/
def State.enterCrashed (s : State) (cause : CrashCause) (op : Byte) : State :=
  { s with crash := some { cause := cause, opcode := op, icount := s.icount } }

/-- The vector of a written value that is exactly one of the five single bits; no other value has one (R265, R270). -/
def interruptVector (v : Byte) : Option Word :=
  if v = 0x01 then some 0x0040
  else if v = 0x02 then some 0x0048
  else if v = 0x04 then some 0x0050
  else if v = 0x08 then some 0x0058
  else if v = 0x10 then some 0x0060
  else none

/-- The dispatch condition: `IME = 1 and (v & MEM[0xFFFF]) = v` (R266). -/
def State.dispatches (s : State) (v : Byte) : Bool := s.ime && (v &&& s.readByte ieAddr == v)

/-- Interrupt entry for the written value `v`: IF and IME cleared, PC pushed high byte then low byte, and PC at the
vector; for a value without a vector, `BadInterruptCombination` with PC not assigned (R264, R266, R268, D9). -/
def State.enterInterrupt (s : State) (v : Byte) : Effect :=
  let cleared := (s.storeByte ifAddr 0).setIme false
  let saved := (cleared.push8 (hiByte cleared.pc)).push8 (loByte cleared.pc)
  match interruptVector v with
  | some vector => .done (saved.setPc vector)
  | none => .raise .badInterruptCombination saved

/-- `WriteIF(v)`, the hook of a store to 0xFF0F through a memory descriptor: interrupt entry instead of the store if
the dispatch condition holds, else the plain store (R266). -/
def State.writeIF (s : State) (v : Byte) : Effect :=
  if s.dispatches v then s.enterInterrupt v else .done (s.storeByte ifAddr v)

/-- The return: `PC <- Pop16()` (R238, R271). -/
def State.returnFromCall (s : State) : State :=
  let popped := s.pop16
  popped.2.setPc popped.1

/-- The return from an interrupt handler: a normal return, then IME set at once (R240, R271). -/
def State.returnFromInterrupt (s : State) : State := s.returnFromCall.setIme true

/-! ### The serial link (R280 to R284) -/

/-- 0x0A, the newline byte of the Serial Link Buffer (R282, D11). -/
def newline : Byte := 0x0A

/-- 0x81, the transfer-start value of SC (R281). -/
def serialStart : Byte := 0x81

/-- 0x01, what SC holds after a transfer (R281, D10). -/
def serialDone : Byte := 0x01

/-- `SerialPush(b)`: refused without any change if the buffer holds capacity minus one bytes, else appended, with the
end-of-line marker set exactly for a newline. The answer says whether the byte was taken (R282). -/
def State.serialPush (s : State) (b : Byte) : Bool × State :=
  if s.serial.length ≥ s.serialCapacity - 1 then (false, s)
  else (true, { s with serial := s.serial ++ [b], serialEol := b == newline })

/-- `SerialStep()`: if SC holds 0x81, push SB (the answer ignored) and store 0x01 in SC, a plain store (R281). -/
def State.serialStep (s : State) : State :=
  if s.readByte scAddr = serialStart then (s.serialPush (s.readByte sbAddr)).2.storeByte scAddr serialDone
  else s

end Sys2Proof.Machine
end

