-- ==== Sys2Proof/Machine/Flags.lean ====
section
/-!
DEFINITION. Sys2Proof/Machine/Flags.lean: the flags of F (spec 10_state.md R24, R26) and every flag computation: the ALU
primitives (40_engine.md R125 to R129), the logical operations (43_alu8.md R175 to R177), the decimal adjust (R183) and
the rotates and shifts (45_rotate_shift.md R200 to R212).
-/

namespace Sys2Proof.Machine

/-! ### The flags view of F (R24) -/

/-- The zero flag: bit 7 of F. -/
def State.fZ (s : State) : Bool := s.af.getLsbD 7

/-- The subtract flag: bit 6 of F. -/
def State.fN (s : State) : Bool := s.af.getLsbD 6

/-- The half-carry flag: bit 5 of F. -/
def State.fH (s : State) : Bool := s.af.getLsbD 5

/-- The carry flag: bit 4 of F. -/
def State.fC (s : State) : Bool := s.af.getLsbD 4

/-- The byte F of four flags, its low four bits 0 (R24). -/
def flagByte (z n h c : Bool) : Byte :=
  BitVec.ofBool z ++ BitVec.ofBool n ++ BitVec.ofBool h ++ BitVec.ofBool c ++ (0 : BitVec 4)

/-- F written with the four flags; A stays (R22, R24). A caller that leaves a flag unchanged passes its old value. -/
def State.setFlags (s : State) (z n h c : Bool) : State :=
  { s with af := wordOf (hiByte s.af) (flagByte z n h c) }

/-! ### 8-bit arithmetic and logic -/

/-- What an 8-bit ALU primitive answers: `(r, z, n, h, c)` (R125, R126). -/
structure Alu8 where
  r : Byte
  z : Bool
  n : Bool
  h : Bool
  c : Bool
deriving DecidableEq, Repr

/-- `add8(a, b, cin)` (R125). -/
def add8 (a b : Byte) (cin : Bool) : Alu8 :=
  let t := a.toNat + b.toNat + cin.toNat
  let r := BitVec.ofNat 8 t
  { r := r
    z := r == 0
    n := false
    h := decide (a.toNat % 16 + b.toNat % 16 + cin.toNat > 0xF)
    c := decide (t > 0xFF) }

/-- `sub8(a, b, bin)` (R126): `a` the minuend, `b` the subtrahend, `bin` the borrow-in. -/
def sub8 (a b : Byte) (bin : Bool) : Alu8 :=
  let r := BitVec.ofInt 8 ((a.toNat : Int) - b.toNat - bin.toNat)
  { r := r
    z := r == 0
    n := true
    h := decide (a.toNat % 16 < b.toNat % 16 + bin.toNat)
    c := decide (a.toNat < b.toNat + bin.toNat) }

/-- `a & v` with its flags: half-carry 1, subtract and carry 0 (R175). -/
def and8 (a v : Byte) : Alu8 :=
  { r := a &&& v, z := a &&& v == 0, n := false, h := true, c := false }

/-- `a ^ v` with its flags: subtract, half-carry and carry 0 (R176). -/
def xor8 (a v : Byte) : Alu8 :=
  { r := a ^^^ v, z := a ^^^ v == 0, n := false, h := false, c := false }

/-- `a | v` with its flags: subtract, half-carry and carry 0 (R177). -/
def or8 (a v : Byte) : Alu8 :=
  { r := a ||| v, z := a ||| v == 0, n := false, h := false, c := false }

/-- The correction of `DAA`: the bytes 0x06 and 0x60, each or not (R183). -/
def daaCorrection (low high : Bool) : Byte :=
  (if low then 0x06 else 0) ||| (if high then 0x60 else 0)

/-- `DAA` on the accumulator `a` under the flags N, H, C: the corrected value and the new carry (R183, D24). -/
def daaAdjust (a : Byte) (n h c : Bool) : Byte × Bool :=
  if n then (a - daaCorrection h c, c)
  else
    let low := h || decide ((a &&& 0x0F).toNat > 0x09)
    let high := c || decide (a.toNat > 0x99)
    (a + daaCorrection low high, high)

/-! ### 16-bit arithmetic -/

/-- What a 16-bit addition answers: `(r, h, c)` (R127, R128). -/
structure Alu16 where
  r : Word
  h : Bool
  c : Bool
deriving DecidableEq, Repr

/-- `add16(x, y)`: two 8-bit adds, low byte then high byte with the carry of the low one (R127). -/
def add16 (x y : Word) : Alu16 :=
  let low := add8 (loByte x) (loByte y) false
  let high := add8 (hiByte x) (hiByte y) low.c
  { r := wordOf high.r low.r, h := high.h, c := high.c }

/-- `addrel16(base, e)`: the high byte goes down by NOT carry if bit 7 of `e` is set, else up by carry; the flags are
those of the addition of the low byte (R128, 90_conflicts.md C3). -/
def addrel16 (base : Word) (e : Byte) : Alu16 :=
  let low := add8 (loByte base) e false
  let high :=
    if e.getLsbD 7 then hiByte base - (if low.c then 0 else 1)
    else hiByte base + (if low.c then 1 else 0)
  { r := wordOf high low.r, h := low.h, c := low.c }

/-! ### Rotates, shifts and swap: the result and the bit that leaves to carry -/

/-- Rotate left circular: bit 7 goes to bit 0 and to carry (R200, R205). -/
def rlc8 (v : Byte) (_c : Bool) : Byte × Bool :=
  (v.extractLsb' 0 7 ++ v.extractLsb' 7 1, v.getLsbD 7)

/-- Rotate right circular: bit 0 goes to bit 7 and to carry (R201, R206). -/
def rrc8 (v : Byte) (_c : Bool) : Byte × Bool :=
  (v.extractLsb' 0 1 ++ v.extractLsb' 1 7, v.getLsbD 0)

/-- Rotate left through carry: the old carry enters bit 0, bit 7 leaves (R202, R207). -/
def rl8 (v : Byte) (c : Bool) : Byte × Bool :=
  (v.extractLsb' 0 7 ++ BitVec.ofBool c, v.getLsbD 7)

/-- Rotate right through carry: the old carry enters bit 7, bit 0 leaves (R203, R208). -/
def rr8 (v : Byte) (c : Bool) : Byte × Bool :=
  (BitVec.ofBool c ++ v.extractLsb' 1 7, v.getLsbD 0)

/-- Shift left arithmetic: 0 enters bit 0, bit 7 leaves (R209). -/
def sla8 (v : Byte) (_c : Bool) : Byte × Bool :=
  (v.extractLsb' 0 7 ++ (0 : BitVec 1), v.getLsbD 7)

/-- Shift right arithmetic: bit 7 stays, bit 0 leaves (R210). -/
def sra8 (v : Byte) (_c : Bool) : Byte × Bool :=
  (v.extractLsb' 7 1 ++ v.extractLsb' 1 7, v.getLsbD 0)

/-- Swap: the nibbles change places, carry 0 (R211). -/
def swap8 (v : Byte) (_c : Bool) : Byte × Bool :=
  (v.extractLsb' 0 4 ++ v.extractLsb' 4 4, false)

/-- Shift right logical: 0 enters bit 7, bit 0 leaves (R212). -/
def srl8 (v : Byte) (_c : Bool) : Byte × Bool :=
  ((0 : BitVec 1) ++ v.extractLsb' 1 7, v.getLsbD 0)

/-- The operation of a `rot[y]` field (R82, R83, R204). -/
def rotate8 (op : RotOp) : Byte → Bool → Byte × Bool :=
  match op with
  | .rlc => rlc8
  | .rrc => rrc8
  | .rl => rl8
  | .rr => rr8
  | .sla => sla8
  | .sra => sra8
  | .swap => swap8
  | .srl => srl8

/-! ### Conditions -/

/-- When a condition `cc` holds (R230). -/
def State.holds (s : State) (cc : Cond) : Bool :=
  match cc with
  | .nz => !s.fZ
  | .z => s.fZ
  | .nc => !s.fC
  | .c => s.fC

end Sys2Proof.Machine
end

