-- ==== Sys2Proof/Machine/Operands.lean ====
section
/-!
DEFINITION. Sys2Proof/Machine/Operands.lean: the addressing-mode resolver and access through Data Access Descriptors (spec
40_engine.md R100 to R113). Every operand form of the instruction set is a `Mode`.
-/

namespace Sys2Proof.Machine

/-- An addressing mode of an opcode table row (R100), with the operand bytes its resolver consumes. The decoder has
read those bytes from the same addresses in the same step, and no write of a step precedes the last read of them
(R66, R69, D19), so carrying them is the same as reading them (notes/assumptions/3.md). -/
inductive Mode where
  | none
  | d8 (v : Byte)
  | a8 (n : Byte)
  | d16 (v : Word)
  | a16 (a : Word)
  | r8 (n : Reg8)
  | r16 (n : Reg16)
  | indBC
  | indDE
  | indHL
  | indC
deriving DecidableEq, Repr

/-- A Data Access Descriptor (R100). `imm8` and `imm16` are the descriptors of the modes D8 and D16: `Mem(address of the
operand)`, known by what that memory holds (notes/assumptions/3.md). -/
inductive Desc where
  | none
  | reg8 (n : Reg8)
  | reg16 (n : Reg16)
  | mem (addr : Word)
  | imm8 (v : Byte)
  | imm16 (v : Word)
deriving DecidableEq, Repr

/-- 0xFF00, the base of the zero-page modes A8 and IND_C (R102, R106). -/
def zeroPage : Word := 0xFF00

/-- `Resolve(mode)`: the descriptor, and PC past the operand bytes the mode consumes (R101 to R107). -/
def State.resolve (s : State) (m : Mode) : Desc × State :=
  match m with
  | .none => (.none, s)
  | .d8 v => (.imm8 v, s.advance 1)
  | .a8 n => (.mem (zeroPage + zext16 n), s.advance 1)
  | .d16 v => (.imm16 v, s.advance 2)
  | .a16 a => (.mem a, s.advance 2)
  | .r8 n => (.reg8 n, s)
  | .r16 n => (.reg16 n, s)
  | .indBC => (.mem s.bc, s)
  | .indDE => (.mem s.de, s)
  | .indHL => (.mem s.hl, s)
  | .indC => (.mem (zeroPage + zext16 (s.reg8 .c)), s)

/-- `Read8(d)` (R110). No rule asks for the last three forms (R110); the answer 0 there is reached by no instruction. -/
def State.read8 (s : State) (d : Desc) : Byte :=
  match d with
  | .reg8 n => s.reg8 n
  | .mem a => s.readByte a
  | .imm8 v => v
  | .none => 0
  | .reg16 _ => 0
  | .imm16 _ => 0

/-- `Write8(d, v)`: a store to 0xFF0F through a memory descriptor runs the interrupt hook (R111, R56). No rule asks for
the last four forms. -/
def State.write8 (s : State) (d : Desc) (v : Byte) : Effect :=
  match d with
  | .reg8 n => .done (s.setReg8 n v)
  | .mem a => if a = ifAddr then s.writeIF v else .done (s.storeByte a v)
  | .none => .done s
  | .reg16 _ => .done s
  | .imm8 _ => .done s
  | .imm16 _ => .done s

/-- `Read16(d)` (R112). No rule asks for the last three forms. -/
def State.read16 (s : State) (d : Desc) : Word :=
  match d with
  | .reg16 n => s.reg16 n
  | .mem a => s.readWord a
  | .imm16 v => v
  | .none => 0
  | .reg8 _ => 0
  | .imm8 _ => 0

/-- `Write16(d, v)`: two plain byte stores for memory, never the hook (R113). No rule asks for the last four forms. -/
def State.write16 (s : State) (d : Desc) (v : Word) : State :=
  match d with
  | .reg16 n => s.setReg16 n v
  | .mem a => s.storeWord a v
  | .none => s
  | .reg8 _ => s
  | .imm8 _ => s
  | .imm16 _ => s

/-- The mode of an operand `r[z]`: `R8_r`, or `IND_HL` for `(HL)` (R82, R170, R204). -/
def operandMode (r : R8) : Mode :=
  match r with
  | .b => .r8 .b
  | .c => .r8 .c
  | .d => .r8 .d
  | .e => .r8 .e
  | .h => .r8 .h
  | .l => .r8 .l
  | .indHL => .indHL
  | .a => .r8 .a

end Sys2Proof.Machine
end

