-- ==== Sys2Proof/Machine/Engine.lean ====
section
/-!
DEFINITION. Sys2Proof/Machine/Engine.lean: the parts of the dispatcher's step machine that every instruction shares (spec
40_engine.md R115 to R119): fetch, resolve, the end of a body, and what follows Execute.
-/

namespace Sys2Proof.Machine

/-- What `exec` answers. -/
abbrev Result := Host.Outcome State Fault Refusal

/-- An instruction body: from the source and destination descriptors and the state after resolution, to its effect
(R117). -/
abbrev Body := Desc → Desc → State → Effect

/-! ### Fetch (steps 1 and 2) -/

/-- The byte that indexes an opcode table in the step at `s`: the first byte, or the second one after the extended
prefix (R115). -/
def State.fetchOpcode (s : State) : Byte :=
  if s.readByte s.pc = extPrefix then s.readByte (s.pc + 1) else s.readByte s.pc

/-- The instruction at PC: the decoder's reading of the three bytes from PC on, addresses mod 65536 (R80, R86, R115). -/
def State.fetchInstr (s : State) : Instr :=
  decodeWindow (s.readByte s.pc) (s.readByte (s.pc + 1)) (s.readByte (s.pc + 2))

/-! ### Resolve and Execute (steps 3 to 5) -/

/-- The end of Execute for a body's effect: `CRASH <- (cause, op, ICOUNT)` if it raised (R115, step 5). -/
def Effect.finish (e : Effect) (op : Byte) : Result :=
  match e with
  | .done s => .next s
  | .raise cause s => .next (s.enterCrashed cause op)

/-- One opcode table row at the instruction's address: PC past the `size` opcode bytes, the source mode resolved, then
the destination mode, then the body (R115, R116). -/
def runRow (size : Word) (op : Byte) (src dst : Mode) (body : Body) (s : State) : Result :=
  let source := (s.advance size).resolve src
  let dest := source.2.resolve dst
  (body source.1 dest.1 dest.2).finish op

/-- A row of the primary table: one opcode byte (R80). -/
abbrev runPrimary (op : Byte) (src dst : Mode) (body : Body) (s : State) : Result := runRow 1 op src dst body s

/-- A row of the extended table: the prefix byte and the opcode byte (R80). -/
abbrev runExtended (op : Byte) (src dst : Mode) (body : Body) (s : State) : Result := runRow 2 op src dst body s

/-- An unset entry of the primary table: Crashed with PC at the opcode's address, nothing else changed (R115 step 3,
R119, R262). -/
def runUnset (op : Byte) (s : State) : Result := .next (s.enterCrashed .unknownOpcode op)

/-! ### After Execute (steps 6 to 8) -/

/-- What the step does after the body of the instruction at `opAddr`: nothing if the body raised a crash; else the
serial step, then the liveness check, then the instruction count (R115, R263, R281). -/
def State.retire (s : State) (opAddr : Word) (op : Byte) : State :=
  if s.crash.isSome then s
  else
    let sent := s.serialStep
    if sent.pc = opAddr then sent.enterCrashed .stalledPC op
    else { sent with icount := sent.icount + 1 }

end Sys2Proof.Machine
end

