-- ==== Sys2Proof/Machine/Load8.lean ====
section
/-!
DEFINITION. Sys2Proof/Machine/Load8.lean: the 8-bit loads (spec 41_load8.md R140 to R159). No instruction here writes F.
-/

namespace Sys2Proof.Machine

/-! ### Bodies -/

/-- `LD8(src, dst)`: read the source, write the destination (41_load8.md, before R140). -/
def ld8Body : Body := fun src dst s => s.write8 dst (s.read8 src)

/-- `LDI`: the copy, then HL one higher, after the access and also after an interrupt entry (R155, R156, R269). -/
def ldiBody : Body := fun src dst s =>
  (s.write8 dst (s.read8 src)).andThen fun t => .done (t.setReg16 .hl (t.hl + 1))

/-- `LDD`: the copy, then HL one lower (R157, R158, R269). -/
def lddBody : Body := fun src dst s =>
  (s.write8 dst (s.read8 src)).andThen fun t => .done (t.setReg16 .hl (t.hl - 1))

/-! ### The meanings, one per opcode table row -/

/-- `LD (BC),A` (R147). -/
abbrev exec_ld_indBC_A (s : State) : Result :=
  runPrimary 0x02 (.r8 .a) .indBC ld8Body s

/-- `LD B,d8` (R141). -/
abbrev exec_ld_B_d8 (d8 : Byte) (s : State) : Result :=
  runPrimary 0x06 (.d8 d8) (.r8 .b) ld8Body s

/-- `LD A,(BC)` (R145). -/
abbrev exec_ld_A_indBC (s : State) : Result :=
  runPrimary 0x0A .indBC (.r8 .a) ld8Body s

/-- `LD C,d8` (R141). -/
abbrev exec_ld_C_d8 (d8 : Byte) (s : State) : Result :=
  runPrimary 0x0E (.d8 d8) (.r8 .c) ld8Body s

/-- `LD (DE),A` (R148). -/
abbrev exec_ld_indDE_A (s : State) : Result :=
  runPrimary 0x12 (.r8 .a) .indDE ld8Body s

/-- `LD D,d8` (R141). -/
abbrev exec_ld_D_d8 (d8 : Byte) (s : State) : Result :=
  runPrimary 0x16 (.d8 d8) (.r8 .d) ld8Body s

/-- `LD A,(DE)` (R146). -/
abbrev exec_ld_A_indDE (s : State) : Result :=
  runPrimary 0x1A .indDE (.r8 .a) ld8Body s

/-- `LD E,d8` (R141). -/
abbrev exec_ld_E_d8 (d8 : Byte) (s : State) : Result :=
  runPrimary 0x1E (.d8 d8) (.r8 .e) ld8Body s

/-- `LDI (HL),A` (R155). -/
abbrev exec_ldi_indHL_A (s : State) : Result :=
  runPrimary 0x22 (.r8 .a) .indHL ldiBody s

/-- `LD H,d8` (R141). -/
abbrev exec_ld_H_d8 (d8 : Byte) (s : State) : Result :=
  runPrimary 0x26 (.d8 d8) (.r8 .h) ld8Body s

/-- `LDI A,(HL)` (R156). -/
abbrev exec_ldi_A_indHL (s : State) : Result :=
  runPrimary 0x2A .indHL (.r8 .a) ldiBody s

/-- `LD L,d8` (R141). -/
abbrev exec_ld_L_d8 (d8 : Byte) (s : State) : Result :=
  runPrimary 0x2E (.d8 d8) (.r8 .l) ld8Body s

/-- `LDD (HL),A` (R157). -/
abbrev exec_ldd_indHL_A (s : State) : Result :=
  runPrimary 0x32 (.r8 .a) .indHL lddBody s

/-- `LD (HL),d8` (R144). -/
abbrev exec_ld_indHL_d8 (d8 : Byte) (s : State) : Result :=
  runPrimary 0x36 (.d8 d8) .indHL ld8Body s

/-- `LDD A,(HL)` (R158). -/
abbrev exec_ldd_A_indHL (s : State) : Result :=
  runPrimary 0x3A .indHL (.r8 .a) lddBody s

/-- `LD A,d8` (R141). -/
abbrev exec_ld_A_d8 (d8 : Byte) (s : State) : Result :=
  runPrimary 0x3E (.d8 d8) (.r8 .a) ld8Body s

/-- `LD B,B` (R140). -/
abbrev exec_ld_B_B (s : State) : Result :=
  runPrimary 0x40 (.r8 .b) (.r8 .b) ld8Body s

/-- `LD B,C` (R140). -/
abbrev exec_ld_B_C (s : State) : Result :=
  runPrimary 0x41 (.r8 .c) (.r8 .b) ld8Body s

/-- `LD B,D` (R140). -/
abbrev exec_ld_B_D (s : State) : Result :=
  runPrimary 0x42 (.r8 .d) (.r8 .b) ld8Body s

/-- `LD B,E` (R140). -/
abbrev exec_ld_B_E (s : State) : Result :=
  runPrimary 0x43 (.r8 .e) (.r8 .b) ld8Body s

/-- `LD B,H` (R140). -/
abbrev exec_ld_B_H (s : State) : Result :=
  runPrimary 0x44 (.r8 .h) (.r8 .b) ld8Body s

/-- `LD B,L` (R140). -/
abbrev exec_ld_B_L (s : State) : Result :=
  runPrimary 0x45 (.r8 .l) (.r8 .b) ld8Body s

/-- `LD B,(HL)` (R142). -/
abbrev exec_ld_B_indHL (s : State) : Result :=
  runPrimary 0x46 .indHL (.r8 .b) ld8Body s

/-- `LD B,A` (R140). -/
abbrev exec_ld_B_A (s : State) : Result :=
  runPrimary 0x47 (.r8 .a) (.r8 .b) ld8Body s

/-- `LD C,B` (R140). -/
abbrev exec_ld_C_B (s : State) : Result :=
  runPrimary 0x48 (.r8 .b) (.r8 .c) ld8Body s

/-- `LD C,C` (R140). -/
abbrev exec_ld_C_C (s : State) : Result :=
  runPrimary 0x49 (.r8 .c) (.r8 .c) ld8Body s

/-- `LD C,D` (R140). -/
abbrev exec_ld_C_D (s : State) : Result :=
  runPrimary 0x4A (.r8 .d) (.r8 .c) ld8Body s

/-- `LD C,E` (R140). -/
abbrev exec_ld_C_E (s : State) : Result :=
  runPrimary 0x4B (.r8 .e) (.r8 .c) ld8Body s

/-- `LD C,H` (R140). -/
abbrev exec_ld_C_H (s : State) : Result :=
  runPrimary 0x4C (.r8 .h) (.r8 .c) ld8Body s

/-- `LD C,L` (R140). -/
abbrev exec_ld_C_L (s : State) : Result :=
  runPrimary 0x4D (.r8 .l) (.r8 .c) ld8Body s

/-- `LD C,(HL)` (R142). -/
abbrev exec_ld_C_indHL (s : State) : Result :=
  runPrimary 0x4E .indHL (.r8 .c) ld8Body s

/-- `LD C,A` (R140). -/
abbrev exec_ld_C_A (s : State) : Result :=
  runPrimary 0x4F (.r8 .a) (.r8 .c) ld8Body s

/-- `LD D,B` (R140). -/
abbrev exec_ld_D_B (s : State) : Result :=
  runPrimary 0x50 (.r8 .b) (.r8 .d) ld8Body s

/-- `LD D,C` (R140). -/
abbrev exec_ld_D_C (s : State) : Result :=
  runPrimary 0x51 (.r8 .c) (.r8 .d) ld8Body s

/-- `LD D,D` (R140). -/
abbrev exec_ld_D_D (s : State) : Result :=
  runPrimary 0x52 (.r8 .d) (.r8 .d) ld8Body s

/-- `LD D,E` (R140). -/
abbrev exec_ld_D_E (s : State) : Result :=
  runPrimary 0x53 (.r8 .e) (.r8 .d) ld8Body s

/-- `LD D,H` (R140). -/
abbrev exec_ld_D_H (s : State) : Result :=
  runPrimary 0x54 (.r8 .h) (.r8 .d) ld8Body s

/-- `LD D,L` (R140). -/
abbrev exec_ld_D_L (s : State) : Result :=
  runPrimary 0x55 (.r8 .l) (.r8 .d) ld8Body s

/-- `LD D,(HL)` (R142). -/
abbrev exec_ld_D_indHL (s : State) : Result :=
  runPrimary 0x56 .indHL (.r8 .d) ld8Body s

/-- `LD D,A` (R140). -/
abbrev exec_ld_D_A (s : State) : Result :=
  runPrimary 0x57 (.r8 .a) (.r8 .d) ld8Body s

/-- `LD E,B` (R140). -/
abbrev exec_ld_E_B (s : State) : Result :=
  runPrimary 0x58 (.r8 .b) (.r8 .e) ld8Body s

/-- `LD E,C` (R140). -/
abbrev exec_ld_E_C (s : State) : Result :=
  runPrimary 0x59 (.r8 .c) (.r8 .e) ld8Body s

/-- `LD E,D` (R140). -/
abbrev exec_ld_E_D (s : State) : Result :=
  runPrimary 0x5A (.r8 .d) (.r8 .e) ld8Body s

/-- `LD E,E` (R140). -/
abbrev exec_ld_E_E (s : State) : Result :=
  runPrimary 0x5B (.r8 .e) (.r8 .e) ld8Body s

/-- `LD E,H` (R140). -/
abbrev exec_ld_E_H (s : State) : Result :=
  runPrimary 0x5C (.r8 .h) (.r8 .e) ld8Body s

/-- `LD E,L` (R140). -/
abbrev exec_ld_E_L (s : State) : Result :=
  runPrimary 0x5D (.r8 .l) (.r8 .e) ld8Body s

/-- `LD E,(HL)` (R142). -/
abbrev exec_ld_E_indHL (s : State) : Result :=
  runPrimary 0x5E .indHL (.r8 .e) ld8Body s

/-- `LD E,A` (R140). -/
abbrev exec_ld_E_A (s : State) : Result :=
  runPrimary 0x5F (.r8 .a) (.r8 .e) ld8Body s

/-- `LD H,B` (R140). -/
abbrev exec_ld_H_B (s : State) : Result :=
  runPrimary 0x60 (.r8 .b) (.r8 .h) ld8Body s

/-- `LD H,C` (R140). -/
abbrev exec_ld_H_C (s : State) : Result :=
  runPrimary 0x61 (.r8 .c) (.r8 .h) ld8Body s

/-- `LD H,D` (R140). -/
abbrev exec_ld_H_D (s : State) : Result :=
  runPrimary 0x62 (.r8 .d) (.r8 .h) ld8Body s

/-- `LD H,E` (R140). -/
abbrev exec_ld_H_E (s : State) : Result :=
  runPrimary 0x63 (.r8 .e) (.r8 .h) ld8Body s

/-- `LD H,H` (R140). -/
abbrev exec_ld_H_H (s : State) : Result :=
  runPrimary 0x64 (.r8 .h) (.r8 .h) ld8Body s

/-- `LD H,L` (R140). -/
abbrev exec_ld_H_L (s : State) : Result :=
  runPrimary 0x65 (.r8 .l) (.r8 .h) ld8Body s

/-- `LD H,(HL)` (R142). -/
abbrev exec_ld_H_indHL (s : State) : Result :=
  runPrimary 0x66 .indHL (.r8 .h) ld8Body s

/-- `LD H,A` (R140). -/
abbrev exec_ld_H_A (s : State) : Result :=
  runPrimary 0x67 (.r8 .a) (.r8 .h) ld8Body s

/-- `LD L,B` (R140). -/
abbrev exec_ld_L_B (s : State) : Result :=
  runPrimary 0x68 (.r8 .b) (.r8 .l) ld8Body s

/-- `LD L,C` (R140). -/
abbrev exec_ld_L_C (s : State) : Result :=
  runPrimary 0x69 (.r8 .c) (.r8 .l) ld8Body s

/-- `LD L,D` (R140). -/
abbrev exec_ld_L_D (s : State) : Result :=
  runPrimary 0x6A (.r8 .d) (.r8 .l) ld8Body s

/-- `LD L,E` (R140). -/
abbrev exec_ld_L_E (s : State) : Result :=
  runPrimary 0x6B (.r8 .e) (.r8 .l) ld8Body s

/-- `LD L,H` (R140). -/
abbrev exec_ld_L_H (s : State) : Result :=
  runPrimary 0x6C (.r8 .h) (.r8 .l) ld8Body s

/-- `LD L,L` (R140). -/
abbrev exec_ld_L_L (s : State) : Result :=
  runPrimary 0x6D (.r8 .l) (.r8 .l) ld8Body s

/-- `LD L,(HL)` (R142). -/
abbrev exec_ld_L_indHL (s : State) : Result :=
  runPrimary 0x6E .indHL (.r8 .l) ld8Body s

/-- `LD L,A` (R140). -/
abbrev exec_ld_L_A (s : State) : Result :=
  runPrimary 0x6F (.r8 .a) (.r8 .l) ld8Body s

/-- `LD (HL),B` (R143). -/
abbrev exec_ld_indHL_B (s : State) : Result :=
  runPrimary 0x70 (.r8 .b) .indHL ld8Body s

/-- `LD (HL),C` (R143). -/
abbrev exec_ld_indHL_C (s : State) : Result :=
  runPrimary 0x71 (.r8 .c) .indHL ld8Body s

/-- `LD (HL),D` (R143). -/
abbrev exec_ld_indHL_D (s : State) : Result :=
  runPrimary 0x72 (.r8 .d) .indHL ld8Body s

/-- `LD (HL),E` (R143). -/
abbrev exec_ld_indHL_E (s : State) : Result :=
  runPrimary 0x73 (.r8 .e) .indHL ld8Body s

/-- `LD (HL),H` (R143). -/
abbrev exec_ld_indHL_H (s : State) : Result :=
  runPrimary 0x74 (.r8 .h) .indHL ld8Body s

/-- `LD (HL),L` (R143). -/
abbrev exec_ld_indHL_L (s : State) : Result :=
  runPrimary 0x75 (.r8 .l) .indHL ld8Body s

/-- `LD (HL),A` (R143). -/
abbrev exec_ld_indHL_A (s : State) : Result :=
  runPrimary 0x77 (.r8 .a) .indHL ld8Body s

/-- `LD A,B` (R140). -/
abbrev exec_ld_A_B (s : State) : Result :=
  runPrimary 0x78 (.r8 .b) (.r8 .a) ld8Body s

/-- `LD A,C` (R140). -/
abbrev exec_ld_A_C (s : State) : Result :=
  runPrimary 0x79 (.r8 .c) (.r8 .a) ld8Body s

/-- `LD A,D` (R140). -/
abbrev exec_ld_A_D (s : State) : Result :=
  runPrimary 0x7A (.r8 .d) (.r8 .a) ld8Body s

/-- `LD A,E` (R140). -/
abbrev exec_ld_A_E (s : State) : Result :=
  runPrimary 0x7B (.r8 .e) (.r8 .a) ld8Body s

/-- `LD A,H` (R140). -/
abbrev exec_ld_A_H (s : State) : Result :=
  runPrimary 0x7C (.r8 .h) (.r8 .a) ld8Body s

/-- `LD A,L` (R140). -/
abbrev exec_ld_A_L (s : State) : Result :=
  runPrimary 0x7D (.r8 .l) (.r8 .a) ld8Body s

/-- `LD A,(HL)` (R142). -/
abbrev exec_ld_A_indHL (s : State) : Result :=
  runPrimary 0x7E .indHL (.r8 .a) ld8Body s

/-- `LD A,A` (R140). -/
abbrev exec_ld_A_A (s : State) : Result :=
  runPrimary 0x7F (.r8 .a) (.r8 .a) ld8Body s

/-- `LDH (a8),A` (R152). -/
abbrev exec_ldh_indA8_A (a8 : Byte) (s : State) : Result :=
  runPrimary 0xE0 (.r8 .a) (.a8 a8) ld8Body s

/-- `LD (C),A` (R154). -/
abbrev exec_ld_indC_A (s : State) : Result :=
  runPrimary 0xE2 (.r8 .a) .indC ld8Body s

/-- `LD (a16),A` (R150). -/
abbrev exec_ld_indA16_A (a16 : Word) (s : State) : Result :=
  runPrimary 0xEA (.r8 .a) (.a16 a16) ld8Body s

/-- `LDH A,(a8)` (R151). -/
abbrev exec_ldh_A_indA8 (a8 : Byte) (s : State) : Result :=
  runPrimary 0xF0 (.a8 a8) (.r8 .a) ld8Body s

/-- `LD A,(C)` (R153). -/
abbrev exec_ld_A_indC (s : State) : Result :=
  runPrimary 0xF2 .indC (.r8 .a) ld8Body s

/-- `LD A,(a16)` (R149). -/
abbrev exec_ld_A_indA16 (a16 : Word) (s : State) : Result :=
  runPrimary 0xFA (.a16 a16) (.r8 .a) ld8Body s

end Sys2Proof.Machine
end

