-- ==== Sys2Proof/Machine/Load16.lean ====
section
/-!
DEFINITION. Sys2Proof/Machine/Load16.lean: the 16-bit loads and the stack instructions (spec 42_load16_stack.md R160 to R167).
-/

namespace Sys2Proof.Machine

/-! ### Bodies -/

/-- `Write16(dst, Read16(src))` (R160, R161, R162). -/
def ld16Body : Body := fun src dst s => .done (s.write16 dst (s.read16 src))

/-- `LD HL,SP+e8`: the relative addition to SP into HL, Z and N cleared, H and C of the low byte (R163, D14). -/
def ldHlSpBody : Body := fun src dst s =>
  let sum := addrel16 s.sp (s.read8 src)
  .done ((s.write16 dst sum.r).setFlags false false sum.h sum.c)

/-- `Push16(Read16(src))` (R164). -/
def pushBody : Body := fun src _ s => .done (s.push16 (s.read16 src))

/-- `Write16(dst, Pop16())`; the write masks F when the pair is AF (R165, R166, D5). -/
def popBody : Body := fun _ dst s =>
  let popped := s.pop16
  .done (popped.2.write16 dst popped.1)

/-! ### The meanings, one per opcode table row -/

/-- `LD BC,d16` (R160). -/
abbrev exec_ld_BC_d16 (d16 : Word) (s : State) : Result :=
  runPrimary 0x01 (.d16 d16) (.r16 .bc) ld16Body s

/-- `LD (a16),SP` (R161). -/
abbrev exec_ld_indA16_SP (a16 : Word) (s : State) : Result :=
  runPrimary 0x08 (.r16 .sp) (.a16 a16) ld16Body s

/-- `LD DE,d16` (R160). -/
abbrev exec_ld_DE_d16 (d16 : Word) (s : State) : Result :=
  runPrimary 0x11 (.d16 d16) (.r16 .de) ld16Body s

/-- `LD HL,d16` (R160). -/
abbrev exec_ld_HL_d16 (d16 : Word) (s : State) : Result :=
  runPrimary 0x21 (.d16 d16) (.r16 .hl) ld16Body s

/-- `LD SP,d16` (R160). -/
abbrev exec_ld_SP_d16 (d16 : Word) (s : State) : Result :=
  runPrimary 0x31 (.d16 d16) (.r16 .sp) ld16Body s

/-- `POP BC` (R165). -/
abbrev exec_pop_BC (s : State) : Result :=
  runPrimary 0xC1 .none (.r16 .bc) popBody s

/-- `PUSH BC` (R164). -/
abbrev exec_push_BC (s : State) : Result :=
  runPrimary 0xC5 (.r16 .bc) .none pushBody s

/-- `POP DE` (R165). -/
abbrev exec_pop_DE (s : State) : Result :=
  runPrimary 0xD1 .none (.r16 .de) popBody s

/-- `PUSH DE` (R164). -/
abbrev exec_push_DE (s : State) : Result :=
  runPrimary 0xD5 (.r16 .de) .none pushBody s

/-- `POP HL` (R165). -/
abbrev exec_pop_HL (s : State) : Result :=
  runPrimary 0xE1 .none (.r16 .hl) popBody s

/-- `PUSH HL` (R164). -/
abbrev exec_push_HL (s : State) : Result :=
  runPrimary 0xE5 (.r16 .hl) .none pushBody s

/-- `POP AF` (R166). -/
abbrev exec_pop_AF (s : State) : Result :=
  runPrimary 0xF1 .none (.r16 .af) popBody s

/-- `PUSH AF` (R164). -/
abbrev exec_push_AF (s : State) : Result :=
  runPrimary 0xF5 (.r16 .af) .none pushBody s

/-- `LD HL,SP+e8` (R163). -/
abbrev exec_ld_HL_SP_e8 (e8 : Byte) (s : State) : Result :=
  runPrimary 0xF8 (.d8 e8) (.r16 .hl) ldHlSpBody s

/-- `LD SP,HL` (R162). -/
abbrev exec_ld_SP_HL (s : State) : Result :=
  runPrimary 0xF9 (.r16 .hl) (.r16 .sp) ld16Body s

end Sys2Proof.Machine
end

