-- ==== Sys2Proof/Machine/Alu8.lean ====
section
/-!
DEFINITION. Sys2Proof/Machine/Alu8.lean: 8-bit arithmetic and logic (spec 43_alu8.md R170 to R186). In every body the destination
descriptor of an accumulator operation is A (R170).
-/

namespace Sys2Proof.Machine

/-! ### Bodies -/

/-- The end of an operation that writes its result and all four flags; flags first, then the write (D19). -/
def writeAlu (dst : Desc) (out : Alu8) (s : State) : Effect :=
  (s.setFlags out.z out.n out.h out.c).write8 dst out.r

/-- `ADD A,s` (R171). -/
def addBody : Body := fun src dst s => writeAlu dst (add8 (s.read8 dst) (s.read8 src) false) s

/-- `ADC A,s` (R172). -/
def adcBody : Body := fun src dst s => writeAlu dst (add8 (s.read8 dst) (s.read8 src) s.fC) s

/-- `SUB s` (R173). -/
def subBody : Body := fun src dst s => writeAlu dst (sub8 (s.read8 dst) (s.read8 src) false) s

/-- `SBC A,s` (R174). -/
def sbcBody : Body := fun src dst s => writeAlu dst (sub8 (s.read8 dst) (s.read8 src) s.fC) s

/-- `AND s` (R175). -/
def andBody : Body := fun src dst s => writeAlu dst (and8 (s.read8 dst) (s.read8 src)) s

/-- `XOR s` (R176). -/
def xorBody : Body := fun src dst s => writeAlu dst (xor8 (s.read8 dst) (s.read8 src)) s

/-- `OR s` (R177). -/
def orBody : Body := fun src dst s => writeAlu dst (or8 (s.read8 dst) (s.read8 src)) s

/-- `CP s`: the flags of `SUB s`, nothing written back (R178). -/
def cpBody : Body := fun src dst s =>
  let out := sub8 (s.read8 dst) (s.read8 src) false
  .done (s.setFlags out.z out.n out.h out.c)

/-- `INC r`, `INC (HL)`: the carry flag stays; flags, then the write (R179, R180, D15, 90_conflicts.md C10). -/
def incBody : Body := fun _ dst s =>
  let out := add8 (s.read8 dst) 1 false
  (s.setFlags out.z false out.h s.fC).write8 dst out.r

/-- `DEC r`, `DEC (HL)`: the carry flag stays; flags, then the write (R181, R182, D15, 90_conflicts.md C10). -/
def decBody : Body := fun _ dst s =>
  let out := sub8 (s.read8 dst) 1 false
  (s.setFlags out.z true out.h s.fC).write8 dst out.r

/-- `DAA`: the subtract flag stays, half-carry cleared (R183). -/
def daaBody : Body := fun _ dst s =>
  let out := daaAdjust (s.read8 dst) s.fN s.fH s.fC
  (s.setFlags (out.1 == 0) s.fN false out.2).write8 dst out.1

/-- `CPL`: Z and C stay (R184). -/
def cplBody : Body := fun _ dst s =>
  (s.setFlags s.fZ true true s.fC).write8 dst (s.read8 dst ^^^ 0xFF)

/-- `SCF`: Z stays (R185). -/
def scfBody : Body := fun _ _ s => .done (s.setFlags s.fZ false false true)

/-- `CCF`: Z stays (R186). -/
def ccfBody : Body := fun _ _ s => .done (s.setFlags s.fZ false false (!s.fC))

/-! ### The meanings, one per opcode table row -/

/-- `INC B` (R179). -/
abbrev exec_inc_B (s : State) : Result :=
  runPrimary 0x04 .none (.r8 .b) incBody s

/-- `DEC B` (R181). -/
abbrev exec_dec_B (s : State) : Result :=
  runPrimary 0x05 .none (.r8 .b) decBody s

/-- `INC C` (R179). -/
abbrev exec_inc_C (s : State) : Result :=
  runPrimary 0x0C .none (.r8 .c) incBody s

/-- `DEC C` (R181). -/
abbrev exec_dec_C (s : State) : Result :=
  runPrimary 0x0D .none (.r8 .c) decBody s

/-- `INC D` (R179). -/
abbrev exec_inc_D (s : State) : Result :=
  runPrimary 0x14 .none (.r8 .d) incBody s

/-- `DEC D` (R181). -/
abbrev exec_dec_D (s : State) : Result :=
  runPrimary 0x15 .none (.r8 .d) decBody s

/-- `INC E` (R179). -/
abbrev exec_inc_E (s : State) : Result :=
  runPrimary 0x1C .none (.r8 .e) incBody s

/-- `DEC E` (R181). -/
abbrev exec_dec_E (s : State) : Result :=
  runPrimary 0x1D .none (.r8 .e) decBody s

/-- `INC H` (R179). -/
abbrev exec_inc_H (s : State) : Result :=
  runPrimary 0x24 .none (.r8 .h) incBody s

/-- `DEC H` (R181). -/
abbrev exec_dec_H (s : State) : Result :=
  runPrimary 0x25 .none (.r8 .h) decBody s

/-- `DAA` (R183). -/
abbrev exec_daa (s : State) : Result :=
  runPrimary 0x27 .none (.r8 .a) daaBody s

/-- `INC L` (R179). -/
abbrev exec_inc_L (s : State) : Result :=
  runPrimary 0x2C .none (.r8 .l) incBody s

/-- `DEC L` (R181). -/
abbrev exec_dec_L (s : State) : Result :=
  runPrimary 0x2D .none (.r8 .l) decBody s

/-- `CPL` (R184). -/
abbrev exec_cpl (s : State) : Result :=
  runPrimary 0x2F .none (.r8 .a) cplBody s

/-- `INC (HL)` (R180). -/
abbrev exec_inc_indHL (s : State) : Result :=
  runPrimary 0x34 .none .indHL incBody s

/-- `DEC (HL)` (R182). -/
abbrev exec_dec_indHL (s : State) : Result :=
  runPrimary 0x35 .none .indHL decBody s

/-- `SCF` (R185). -/
abbrev exec_scf (s : State) : Result :=
  runPrimary 0x37 .none .none scfBody s

/-- `INC A` (R179). -/
abbrev exec_inc_A (s : State) : Result :=
  runPrimary 0x3C .none (.r8 .a) incBody s

/-- `DEC A` (R181). -/
abbrev exec_dec_A (s : State) : Result :=
  runPrimary 0x3D .none (.r8 .a) decBody s

/-- `CCF` (R186). -/
abbrev exec_ccf (s : State) : Result :=
  runPrimary 0x3F .none .none ccfBody s

/-- `ADD A,B` (R171). -/
abbrev exec_add_A_B (s : State) : Result :=
  runPrimary 0x80 (.r8 .b) (.r8 .a) addBody s

/-- `ADD A,C` (R171). -/
abbrev exec_add_A_C (s : State) : Result :=
  runPrimary 0x81 (.r8 .c) (.r8 .a) addBody s

/-- `ADD A,D` (R171). -/
abbrev exec_add_A_D (s : State) : Result :=
  runPrimary 0x82 (.r8 .d) (.r8 .a) addBody s

/-- `ADD A,E` (R171). -/
abbrev exec_add_A_E (s : State) : Result :=
  runPrimary 0x83 (.r8 .e) (.r8 .a) addBody s

/-- `ADD A,H` (R171). -/
abbrev exec_add_A_H (s : State) : Result :=
  runPrimary 0x84 (.r8 .h) (.r8 .a) addBody s

/-- `ADD A,L` (R171). -/
abbrev exec_add_A_L (s : State) : Result :=
  runPrimary 0x85 (.r8 .l) (.r8 .a) addBody s

/-- `ADD A,(HL)` (R171). -/
abbrev exec_add_A_indHL (s : State) : Result :=
  runPrimary 0x86 .indHL (.r8 .a) addBody s

/-- `ADD A,A` (R171). -/
abbrev exec_add_A_A (s : State) : Result :=
  runPrimary 0x87 (.r8 .a) (.r8 .a) addBody s

/-- `ADC A,B` (R172). -/
abbrev exec_adc_A_B (s : State) : Result :=
  runPrimary 0x88 (.r8 .b) (.r8 .a) adcBody s

/-- `ADC A,C` (R172). -/
abbrev exec_adc_A_C (s : State) : Result :=
  runPrimary 0x89 (.r8 .c) (.r8 .a) adcBody s

/-- `ADC A,D` (R172). -/
abbrev exec_adc_A_D (s : State) : Result :=
  runPrimary 0x8A (.r8 .d) (.r8 .a) adcBody s

/-- `ADC A,E` (R172). -/
abbrev exec_adc_A_E (s : State) : Result :=
  runPrimary 0x8B (.r8 .e) (.r8 .a) adcBody s

/-- `ADC A,H` (R172). -/
abbrev exec_adc_A_H (s : State) : Result :=
  runPrimary 0x8C (.r8 .h) (.r8 .a) adcBody s

/-- `ADC A,L` (R172). -/
abbrev exec_adc_A_L (s : State) : Result :=
  runPrimary 0x8D (.r8 .l) (.r8 .a) adcBody s

/-- `ADC A,(HL)` (R172). -/
abbrev exec_adc_A_indHL (s : State) : Result :=
  runPrimary 0x8E .indHL (.r8 .a) adcBody s

/-- `ADC A,A` (R172). -/
abbrev exec_adc_A_A (s : State) : Result :=
  runPrimary 0x8F (.r8 .a) (.r8 .a) adcBody s

/-- `SUB B` (R173). -/
abbrev exec_sub_B (s : State) : Result :=
  runPrimary 0x90 (.r8 .b) (.r8 .a) subBody s

/-- `SUB C` (R173). -/
abbrev exec_sub_C (s : State) : Result :=
  runPrimary 0x91 (.r8 .c) (.r8 .a) subBody s

/-- `SUB D` (R173). -/
abbrev exec_sub_D (s : State) : Result :=
  runPrimary 0x92 (.r8 .d) (.r8 .a) subBody s

/-- `SUB E` (R173). -/
abbrev exec_sub_E (s : State) : Result :=
  runPrimary 0x93 (.r8 .e) (.r8 .a) subBody s

/-- `SUB H` (R173). -/
abbrev exec_sub_H (s : State) : Result :=
  runPrimary 0x94 (.r8 .h) (.r8 .a) subBody s

/-- `SUB L` (R173). -/
abbrev exec_sub_L (s : State) : Result :=
  runPrimary 0x95 (.r8 .l) (.r8 .a) subBody s

/-- `SUB (HL)` (R173). -/
abbrev exec_sub_indHL (s : State) : Result :=
  runPrimary 0x96 .indHL (.r8 .a) subBody s

/-- `SUB A` (R173). -/
abbrev exec_sub_A (s : State) : Result :=
  runPrimary 0x97 (.r8 .a) (.r8 .a) subBody s

/-- `SBC A,B` (R174). -/
abbrev exec_sbc_A_B (s : State) : Result :=
  runPrimary 0x98 (.r8 .b) (.r8 .a) sbcBody s

/-- `SBC A,C` (R174). -/
abbrev exec_sbc_A_C (s : State) : Result :=
  runPrimary 0x99 (.r8 .c) (.r8 .a) sbcBody s

/-- `SBC A,D` (R174). -/
abbrev exec_sbc_A_D (s : State) : Result :=
  runPrimary 0x9A (.r8 .d) (.r8 .a) sbcBody s

/-- `SBC A,E` (R174). -/
abbrev exec_sbc_A_E (s : State) : Result :=
  runPrimary 0x9B (.r8 .e) (.r8 .a) sbcBody s

/-- `SBC A,H` (R174). -/
abbrev exec_sbc_A_H (s : State) : Result :=
  runPrimary 0x9C (.r8 .h) (.r8 .a) sbcBody s

/-- `SBC A,L` (R174). -/
abbrev exec_sbc_A_L (s : State) : Result :=
  runPrimary 0x9D (.r8 .l) (.r8 .a) sbcBody s

/-- `SBC A,(HL)` (R174). -/
abbrev exec_sbc_A_indHL (s : State) : Result :=
  runPrimary 0x9E .indHL (.r8 .a) sbcBody s

/-- `SBC A,A` (R174). -/
abbrev exec_sbc_A_A (s : State) : Result :=
  runPrimary 0x9F (.r8 .a) (.r8 .a) sbcBody s

/-- `AND B` (R175). -/
abbrev exec_and_B (s : State) : Result :=
  runPrimary 0xA0 (.r8 .b) (.r8 .a) andBody s

/-- `AND C` (R175). -/
abbrev exec_and_C (s : State) : Result :=
  runPrimary 0xA1 (.r8 .c) (.r8 .a) andBody s

/-- `AND D` (R175). -/
abbrev exec_and_D (s : State) : Result :=
  runPrimary 0xA2 (.r8 .d) (.r8 .a) andBody s

/-- `AND E` (R175). -/
abbrev exec_and_E (s : State) : Result :=
  runPrimary 0xA3 (.r8 .e) (.r8 .a) andBody s

/-- `AND H` (R175). -/
abbrev exec_and_H (s : State) : Result :=
  runPrimary 0xA4 (.r8 .h) (.r8 .a) andBody s

/-- `AND L` (R175). -/
abbrev exec_and_L (s : State) : Result :=
  runPrimary 0xA5 (.r8 .l) (.r8 .a) andBody s

/-- `AND (HL)` (R175). -/
abbrev exec_and_indHL (s : State) : Result :=
  runPrimary 0xA6 .indHL (.r8 .a) andBody s

/-- `AND A` (R175). -/
abbrev exec_and_A (s : State) : Result :=
  runPrimary 0xA7 (.r8 .a) (.r8 .a) andBody s

/-- `XOR B` (R176). -/
abbrev exec_xor_B (s : State) : Result :=
  runPrimary 0xA8 (.r8 .b) (.r8 .a) xorBody s

/-- `XOR C` (R176). -/
abbrev exec_xor_C (s : State) : Result :=
  runPrimary 0xA9 (.r8 .c) (.r8 .a) xorBody s

/-- `XOR D` (R176). -/
abbrev exec_xor_D (s : State) : Result :=
  runPrimary 0xAA (.r8 .d) (.r8 .a) xorBody s

/-- `XOR E` (R176). -/
abbrev exec_xor_E (s : State) : Result :=
  runPrimary 0xAB (.r8 .e) (.r8 .a) xorBody s

/-- `XOR H` (R176). -/
abbrev exec_xor_H (s : State) : Result :=
  runPrimary 0xAC (.r8 .h) (.r8 .a) xorBody s

/-- `XOR L` (R176). -/
abbrev exec_xor_L (s : State) : Result :=
  runPrimary 0xAD (.r8 .l) (.r8 .a) xorBody s

/-- `XOR (HL)` (R176). -/
abbrev exec_xor_indHL (s : State) : Result :=
  runPrimary 0xAE .indHL (.r8 .a) xorBody s

/-- `XOR A` (R176). -/
abbrev exec_xor_A (s : State) : Result :=
  runPrimary 0xAF (.r8 .a) (.r8 .a) xorBody s

/-- `OR B` (R177). -/
abbrev exec_or_B (s : State) : Result :=
  runPrimary 0xB0 (.r8 .b) (.r8 .a) orBody s

/-- `OR C` (R177). -/
abbrev exec_or_C (s : State) : Result :=
  runPrimary 0xB1 (.r8 .c) (.r8 .a) orBody s

/-- `OR D` (R177). -/
abbrev exec_or_D (s : State) : Result :=
  runPrimary 0xB2 (.r8 .d) (.r8 .a) orBody s

/-- `OR E` (R177). -/
abbrev exec_or_E (s : State) : Result :=
  runPrimary 0xB3 (.r8 .e) (.r8 .a) orBody s

/-- `OR H` (R177). -/
abbrev exec_or_H (s : State) : Result :=
  runPrimary 0xB4 (.r8 .h) (.r8 .a) orBody s

/-- `OR L` (R177). -/
abbrev exec_or_L (s : State) : Result :=
  runPrimary 0xB5 (.r8 .l) (.r8 .a) orBody s

/-- `OR (HL)` (R177). -/
abbrev exec_or_indHL (s : State) : Result :=
  runPrimary 0xB6 .indHL (.r8 .a) orBody s

/-- `OR A` (R177). -/
abbrev exec_or_A (s : State) : Result :=
  runPrimary 0xB7 (.r8 .a) (.r8 .a) orBody s

/-- `CP B` (R178). -/
abbrev exec_cp_B (s : State) : Result :=
  runPrimary 0xB8 (.r8 .b) (.r8 .a) cpBody s

/-- `CP C` (R178). -/
abbrev exec_cp_C (s : State) : Result :=
  runPrimary 0xB9 (.r8 .c) (.r8 .a) cpBody s

/-- `CP D` (R178). -/
abbrev exec_cp_D (s : State) : Result :=
  runPrimary 0xBA (.r8 .d) (.r8 .a) cpBody s

/-- `CP E` (R178). -/
abbrev exec_cp_E (s : State) : Result :=
  runPrimary 0xBB (.r8 .e) (.r8 .a) cpBody s

/-- `CP H` (R178). -/
abbrev exec_cp_H (s : State) : Result :=
  runPrimary 0xBC (.r8 .h) (.r8 .a) cpBody s

/-- `CP L` (R178). -/
abbrev exec_cp_L (s : State) : Result :=
  runPrimary 0xBD (.r8 .l) (.r8 .a) cpBody s

/-- `CP (HL)` (R178). -/
abbrev exec_cp_indHL (s : State) : Result :=
  runPrimary 0xBE .indHL (.r8 .a) cpBody s

/-- `CP A` (R178). -/
abbrev exec_cp_A (s : State) : Result :=
  runPrimary 0xBF (.r8 .a) (.r8 .a) cpBody s

/-- `ADD A,d8` (R171). -/
abbrev exec_add_A_d8 (d8 : Byte) (s : State) : Result :=
  runPrimary 0xC6 (.d8 d8) (.r8 .a) addBody s

/-- `ADC A,d8` (R172). -/
abbrev exec_adc_A_d8 (d8 : Byte) (s : State) : Result :=
  runPrimary 0xCE (.d8 d8) (.r8 .a) adcBody s

/-- `SUB d8` (R173). -/
abbrev exec_sub_d8 (d8 : Byte) (s : State) : Result :=
  runPrimary 0xD6 (.d8 d8) (.r8 .a) subBody s

/-- `SBC A,d8` (R174). -/
abbrev exec_sbc_A_d8 (d8 : Byte) (s : State) : Result :=
  runPrimary 0xDE (.d8 d8) (.r8 .a) sbcBody s

/-- `AND d8` (R175). -/
abbrev exec_and_d8 (d8 : Byte) (s : State) : Result :=
  runPrimary 0xE6 (.d8 d8) (.r8 .a) andBody s

/-- `XOR d8` (R176). -/
abbrev exec_xor_d8 (d8 : Byte) (s : State) : Result :=
  runPrimary 0xEE (.d8 d8) (.r8 .a) xorBody s

/-- `OR d8` (R177). -/
abbrev exec_or_d8 (d8 : Byte) (s : State) : Result :=
  runPrimary 0xF6 (.d8 d8) (.r8 .a) orBody s

/-- `CP d8` (R178). -/
abbrev exec_cp_d8 (d8 : Byte) (s : State) : Result :=
  runPrimary 0xFE (.d8 d8) (.r8 .a) cpBody s

end Sys2Proof.Machine
end

