-- ==== Sys2Proof/Machine/Alu16.lean ====
section
/-!
DEFINITION. Sys2Proof/Machine/Alu16.lean: 16-bit arithmetic (spec 44_alu16.md R190 to R194).
-/

namespace Sys2Proof.Machine

/-! ### Bodies -/

/-- `ADD HL,rr`: Z stays, N cleared (R190). -/
def addHlBody : Body := fun src dst s =>
  let sum := add16 (s.read16 dst) (s.read16 src)
  .done ((s.write16 dst sum.r).setFlags s.fZ false sum.h sum.c)

/-- `INC rr`: no flag (R191). -/
def inc16Body : Body := fun _ dst s => .done (s.write16 dst (s.read16 dst + 1))

/-- `DEC rr`: no flag (R192). -/
def dec16Body : Body := fun _ dst s => .done (s.write16 dst (s.read16 dst - 1))

/-- `ADD SP,e8`: the relative addition, Z and N cleared (R193, D14). -/
def addSpBody : Body := fun src dst s =>
  let sum := addrel16 (s.read16 dst) (s.read8 src)
  .done ((s.write16 dst sum.r).setFlags false false sum.h sum.c)

/-! ### The meanings, one per opcode table row -/

/-- `INC BC` (R191). -/
abbrev exec_inc_BC (s : State) : Result :=
  runPrimary 0x03 .none (.r16 .bc) inc16Body s

/-- `ADD HL,BC` (R190). -/
abbrev exec_add_HL_BC (s : State) : Result :=
  runPrimary 0x09 (.r16 .bc) (.r16 .hl) addHlBody s

/-- `DEC BC` (R192). -/
abbrev exec_dec_BC (s : State) : Result :=
  runPrimary 0x0B .none (.r16 .bc) dec16Body s

/-- `INC DE` (R191). -/
abbrev exec_inc_DE (s : State) : Result :=
  runPrimary 0x13 .none (.r16 .de) inc16Body s

/-- `ADD HL,DE` (R190). -/
abbrev exec_add_HL_DE (s : State) : Result :=
  runPrimary 0x19 (.r16 .de) (.r16 .hl) addHlBody s

/-- `DEC DE` (R192). -/
abbrev exec_dec_DE (s : State) : Result :=
  runPrimary 0x1B .none (.r16 .de) dec16Body s

/-- `INC HL` (R191). -/
abbrev exec_inc_HL (s : State) : Result :=
  runPrimary 0x23 .none (.r16 .hl) inc16Body s

/-- `ADD HL,HL` (R190). -/
abbrev exec_add_HL_HL (s : State) : Result :=
  runPrimary 0x29 (.r16 .hl) (.r16 .hl) addHlBody s

/-- `DEC HL` (R192). -/
abbrev exec_dec_HL (s : State) : Result :=
  runPrimary 0x2B .none (.r16 .hl) dec16Body s

/-- `INC SP` (R191). -/
abbrev exec_inc_SP (s : State) : Result :=
  runPrimary 0x33 .none (.r16 .sp) inc16Body s

/-- `ADD HL,SP` (R190). -/
abbrev exec_add_HL_SP (s : State) : Result :=
  runPrimary 0x39 (.r16 .sp) (.r16 .hl) addHlBody s

/-- `DEC SP` (R192). -/
abbrev exec_dec_SP (s : State) : Result :=
  runPrimary 0x3B .none (.r16 .sp) dec16Body s

/-- `ADD SP,e8` (R193). -/
abbrev exec_add_SP_e8 (e8 : Byte) (s : State) : Result :=
  runPrimary 0xE8 (.d8 e8) (.r16 .sp) addSpBody s

end Sys2Proof.Machine
end

