-- ==== Sys2Proof/Machine/Rotate.lean ====
section
/-!
DEFINITION. Sys2Proof/Machine/Rotate.lean: rotates, shifts and swap (spec 45_rotate_shift.md R200 to R213).
-/

namespace Sys2Proof.Machine

/-! ### Bodies -/

/-- An accumulator rotate: Z, N and H cleared, C the bit rotated out (R200 to R203, R213). -/
def rotAccBody (f : Byte → Bool → Byte × Bool) : Body := fun _ dst s =>
  let out := f (s.read8 dst) s.fC
  (s.setFlags false false false out.2).write8 dst out.1

/-- `RLCA` (R200). -/
def rlcaBody : Body := rotAccBody rlc8

/-- `RRCA` (R201). -/
def rrcaBody : Body := rotAccBody rrc8

/-- `RLA` (R202). -/
def rlaBody : Body := rotAccBody rl8

/-- `RRA` (R203). -/
def rraBody : Body := rotAccBody rr8

/-- The common body of the extended rotates and shifts: Z from the result, N and H cleared; flags, then the write
(R204, D16, D19). -/
def rotBody (f : Byte → Bool → Byte × Bool) : Body := fun _ dst s =>
  let out := f (s.read8 dst) s.fC
  (s.setFlags (out.1 == 0) false false out.2).write8 dst out.1

/-! ### The meanings, one per opcode table row -/

/-- `RLCA` (R200). -/
abbrev exec_rlca (s : State) : Result :=
  runPrimary 0x07 .none (.r8 .a) rlcaBody s

/-- `RRCA` (R201). -/
abbrev exec_rrca (s : State) : Result :=
  runPrimary 0x0F .none (.r8 .a) rrcaBody s

/-- `RLA` (R202). -/
abbrev exec_rla (s : State) : Result :=
  runPrimary 0x17 .none (.r8 .a) rlaBody s

/-- `RRA` (R203). -/
abbrev exec_rra (s : State) : Result :=
  runPrimary 0x1F .none (.r8 .a) rraBody s

/-- `RLC B` (R205). -/
abbrev exec_rlc_B (s : State) : Result :=
  runExtended 0x00 (.r8 .b) (.r8 .b) (rotBody rlc8) s

/-- `RLC C` (R205). -/
abbrev exec_rlc_C (s : State) : Result :=
  runExtended 0x01 (.r8 .c) (.r8 .c) (rotBody rlc8) s

/-- `RLC D` (R205). -/
abbrev exec_rlc_D (s : State) : Result :=
  runExtended 0x02 (.r8 .d) (.r8 .d) (rotBody rlc8) s

/-- `RLC E` (R205). -/
abbrev exec_rlc_E (s : State) : Result :=
  runExtended 0x03 (.r8 .e) (.r8 .e) (rotBody rlc8) s

/-- `RLC H` (R205). -/
abbrev exec_rlc_H (s : State) : Result :=
  runExtended 0x04 (.r8 .h) (.r8 .h) (rotBody rlc8) s

/-- `RLC L` (R205). -/
abbrev exec_rlc_L (s : State) : Result :=
  runExtended 0x05 (.r8 .l) (.r8 .l) (rotBody rlc8) s

/-- `RLC (HL)` (R205). -/
abbrev exec_rlc_indHL (s : State) : Result :=
  runExtended 0x06 .indHL .indHL (rotBody rlc8) s

/-- `RLC A` (R205). -/
abbrev exec_rlc_A (s : State) : Result :=
  runExtended 0x07 (.r8 .a) (.r8 .a) (rotBody rlc8) s

/-- `RRC B` (R206). -/
abbrev exec_rrc_B (s : State) : Result :=
  runExtended 0x08 (.r8 .b) (.r8 .b) (rotBody rrc8) s

/-- `RRC C` (R206). -/
abbrev exec_rrc_C (s : State) : Result :=
  runExtended 0x09 (.r8 .c) (.r8 .c) (rotBody rrc8) s

/-- `RRC D` (R206). -/
abbrev exec_rrc_D (s : State) : Result :=
  runExtended 0x0A (.r8 .d) (.r8 .d) (rotBody rrc8) s

/-- `RRC E` (R206). -/
abbrev exec_rrc_E (s : State) : Result :=
  runExtended 0x0B (.r8 .e) (.r8 .e) (rotBody rrc8) s

/-- `RRC H` (R206). -/
abbrev exec_rrc_H (s : State) : Result :=
  runExtended 0x0C (.r8 .h) (.r8 .h) (rotBody rrc8) s

/-- `RRC L` (R206). -/
abbrev exec_rrc_L (s : State) : Result :=
  runExtended 0x0D (.r8 .l) (.r8 .l) (rotBody rrc8) s

/-- `RRC (HL)` (R206). -/
abbrev exec_rrc_indHL (s : State) : Result :=
  runExtended 0x0E .indHL .indHL (rotBody rrc8) s

/-- `RRC A` (R206). -/
abbrev exec_rrc_A (s : State) : Result :=
  runExtended 0x0F (.r8 .a) (.r8 .a) (rotBody rrc8) s

/-- `RL B` (R207). -/
abbrev exec_rl_B (s : State) : Result :=
  runExtended 0x10 (.r8 .b) (.r8 .b) (rotBody rl8) s

/-- `RL C` (R207). -/
abbrev exec_rl_C (s : State) : Result :=
  runExtended 0x11 (.r8 .c) (.r8 .c) (rotBody rl8) s

/-- `RL D` (R207). -/
abbrev exec_rl_D (s : State) : Result :=
  runExtended 0x12 (.r8 .d) (.r8 .d) (rotBody rl8) s

/-- `RL E` (R207). -/
abbrev exec_rl_E (s : State) : Result :=
  runExtended 0x13 (.r8 .e) (.r8 .e) (rotBody rl8) s

/-- `RL H` (R207). -/
abbrev exec_rl_H (s : State) : Result :=
  runExtended 0x14 (.r8 .h) (.r8 .h) (rotBody rl8) s

/-- `RL L` (R207). -/
abbrev exec_rl_L (s : State) : Result :=
  runExtended 0x15 (.r8 .l) (.r8 .l) (rotBody rl8) s

/-- `RL (HL)` (R207). -/
abbrev exec_rl_indHL (s : State) : Result :=
  runExtended 0x16 .indHL .indHL (rotBody rl8) s

/-- `RL A` (R207). -/
abbrev exec_rl_A (s : State) : Result :=
  runExtended 0x17 (.r8 .a) (.r8 .a) (rotBody rl8) s

/-- `RR B` (R208). -/
abbrev exec_rr_B (s : State) : Result :=
  runExtended 0x18 (.r8 .b) (.r8 .b) (rotBody rr8) s

/-- `RR C` (R208). -/
abbrev exec_rr_C (s : State) : Result :=
  runExtended 0x19 (.r8 .c) (.r8 .c) (rotBody rr8) s

/-- `RR D` (R208). -/
abbrev exec_rr_D (s : State) : Result :=
  runExtended 0x1A (.r8 .d) (.r8 .d) (rotBody rr8) s

/-- `RR E` (R208). -/
abbrev exec_rr_E (s : State) : Result :=
  runExtended 0x1B (.r8 .e) (.r8 .e) (rotBody rr8) s

/-- `RR H` (R208). -/
abbrev exec_rr_H (s : State) : Result :=
  runExtended 0x1C (.r8 .h) (.r8 .h) (rotBody rr8) s

/-- `RR L` (R208). -/
abbrev exec_rr_L (s : State) : Result :=
  runExtended 0x1D (.r8 .l) (.r8 .l) (rotBody rr8) s

/-- `RR (HL)` (R208). -/
abbrev exec_rr_indHL (s : State) : Result :=
  runExtended 0x1E .indHL .indHL (rotBody rr8) s

/-- `RR A` (R208). -/
abbrev exec_rr_A (s : State) : Result :=
  runExtended 0x1F (.r8 .a) (.r8 .a) (rotBody rr8) s

/-- `SLA B` (R209). -/
abbrev exec_sla_B (s : State) : Result :=
  runExtended 0x20 (.r8 .b) (.r8 .b) (rotBody sla8) s

/-- `SLA C` (R209). -/
abbrev exec_sla_C (s : State) : Result :=
  runExtended 0x21 (.r8 .c) (.r8 .c) (rotBody sla8) s

/-- `SLA D` (R209). -/
abbrev exec_sla_D (s : State) : Result :=
  runExtended 0x22 (.r8 .d) (.r8 .d) (rotBody sla8) s

/-- `SLA E` (R209). -/
abbrev exec_sla_E (s : State) : Result :=
  runExtended 0x23 (.r8 .e) (.r8 .e) (rotBody sla8) s

/-- `SLA H` (R209). -/
abbrev exec_sla_H (s : State) : Result :=
  runExtended 0x24 (.r8 .h) (.r8 .h) (rotBody sla8) s

/-- `SLA L` (R209). -/
abbrev exec_sla_L (s : State) : Result :=
  runExtended 0x25 (.r8 .l) (.r8 .l) (rotBody sla8) s

/-- `SLA (HL)` (R209). -/
abbrev exec_sla_indHL (s : State) : Result :=
  runExtended 0x26 .indHL .indHL (rotBody sla8) s

/-- `SLA A` (R209). -/
abbrev exec_sla_A (s : State) : Result :=
  runExtended 0x27 (.r8 .a) (.r8 .a) (rotBody sla8) s

/-- `SRA B` (R210). -/
abbrev exec_sra_B (s : State) : Result :=
  runExtended 0x28 (.r8 .b) (.r8 .b) (rotBody sra8) s

/-- `SRA C` (R210). -/
abbrev exec_sra_C (s : State) : Result :=
  runExtended 0x29 (.r8 .c) (.r8 .c) (rotBody sra8) s

/-- `SRA D` (R210). -/
abbrev exec_sra_D (s : State) : Result :=
  runExtended 0x2A (.r8 .d) (.r8 .d) (rotBody sra8) s

/-- `SRA E` (R210). -/
abbrev exec_sra_E (s : State) : Result :=
  runExtended 0x2B (.r8 .e) (.r8 .e) (rotBody sra8) s

/-- `SRA H` (R210). -/
abbrev exec_sra_H (s : State) : Result :=
  runExtended 0x2C (.r8 .h) (.r8 .h) (rotBody sra8) s

/-- `SRA L` (R210). -/
abbrev exec_sra_L (s : State) : Result :=
  runExtended 0x2D (.r8 .l) (.r8 .l) (rotBody sra8) s

/-- `SRA (HL)` (R210). -/
abbrev exec_sra_indHL (s : State) : Result :=
  runExtended 0x2E .indHL .indHL (rotBody sra8) s

/-- `SRA A` (R210). -/
abbrev exec_sra_A (s : State) : Result :=
  runExtended 0x2F (.r8 .a) (.r8 .a) (rotBody sra8) s

/-- `SWAP B` (R211). -/
abbrev exec_swap_B (s : State) : Result :=
  runExtended 0x30 (.r8 .b) (.r8 .b) (rotBody swap8) s

/-- `SWAP C` (R211). -/
abbrev exec_swap_C (s : State) : Result :=
  runExtended 0x31 (.r8 .c) (.r8 .c) (rotBody swap8) s

/-- `SWAP D` (R211). -/
abbrev exec_swap_D (s : State) : Result :=
  runExtended 0x32 (.r8 .d) (.r8 .d) (rotBody swap8) s

/-- `SWAP E` (R211). -/
abbrev exec_swap_E (s : State) : Result :=
  runExtended 0x33 (.r8 .e) (.r8 .e) (rotBody swap8) s

/-- `SWAP H` (R211). -/
abbrev exec_swap_H (s : State) : Result :=
  runExtended 0x34 (.r8 .h) (.r8 .h) (rotBody swap8) s

/-- `SWAP L` (R211). -/
abbrev exec_swap_L (s : State) : Result :=
  runExtended 0x35 (.r8 .l) (.r8 .l) (rotBody swap8) s

/-- `SWAP (HL)` (R211). -/
abbrev exec_swap_indHL (s : State) : Result :=
  runExtended 0x36 .indHL .indHL (rotBody swap8) s

/-- `SWAP A` (R211). -/
abbrev exec_swap_A (s : State) : Result :=
  runExtended 0x37 (.r8 .a) (.r8 .a) (rotBody swap8) s

/-- `SRL B` (R212). -/
abbrev exec_srl_B (s : State) : Result :=
  runExtended 0x38 (.r8 .b) (.r8 .b) (rotBody srl8) s

/-- `SRL C` (R212). -/
abbrev exec_srl_C (s : State) : Result :=
  runExtended 0x39 (.r8 .c) (.r8 .c) (rotBody srl8) s

/-- `SRL D` (R212). -/
abbrev exec_srl_D (s : State) : Result :=
  runExtended 0x3A (.r8 .d) (.r8 .d) (rotBody srl8) s

/-- `SRL E` (R212). -/
abbrev exec_srl_E (s : State) : Result :=
  runExtended 0x3B (.r8 .e) (.r8 .e) (rotBody srl8) s

/-- `SRL H` (R212). -/
abbrev exec_srl_H (s : State) : Result :=
  runExtended 0x3C (.r8 .h) (.r8 .h) (rotBody srl8) s

/-- `SRL L` (R212). -/
abbrev exec_srl_L (s : State) : Result :=
  runExtended 0x3D (.r8 .l) (.r8 .l) (rotBody srl8) s

/-- `SRL (HL)` (R212). -/
abbrev exec_srl_indHL (s : State) : Result :=
  runExtended 0x3E .indHL .indHL (rotBody srl8) s

/-- `SRL A` (R212). -/
abbrev exec_srl_A (s : State) : Result :=
  runExtended 0x3F (.r8 .a) (.r8 .a) (rotBody srl8) s

end Sys2Proof.Machine
end

