-- ==== Sys2Proof/Machine/Bits.lean ====
section
/-!
DEFINITION. Sys2Proof/Machine/Bits.lean: bit test, reset and set (spec 46_bit.md R220 to R223).
-/

namespace Sys2Proof.Machine

/-! ### Bodies -/

/-- `BIT b`: Z is 1 when the bit is 0, N 0, H 1, C stays; nothing written back (R220). -/
def bitBody (b : Nat) : Body := fun _ dst s =>
  .done (s.setFlags (!(s.read8 dst).getLsbD b) false true s.fC)

/-- `RES b`: bit `b` cleared and written back unconditionally; no flag (R221). -/
def resBody (b : Nat) : Body := fun _ dst s => s.write8 dst (s.read8 dst &&& ~~~((1 : Byte) <<< b))

/-- `SET b`: bit `b` set and written back unconditionally; no flag (R222). -/
def setBody (b : Nat) : Body := fun _ dst s => s.write8 dst (s.read8 dst ||| ((1 : Byte) <<< b))

/-! ### The meanings, one per opcode table row -/

/-- `BIT 0,B` (R220). -/
abbrev exec_bit_0_B (s : State) : Result :=
  runExtended 0x40 (.r8 .b) (.r8 .b) (bitBody 0) s

/-- `BIT 0,C` (R220). -/
abbrev exec_bit_0_C (s : State) : Result :=
  runExtended 0x41 (.r8 .c) (.r8 .c) (bitBody 0) s

/-- `BIT 0,D` (R220). -/
abbrev exec_bit_0_D (s : State) : Result :=
  runExtended 0x42 (.r8 .d) (.r8 .d) (bitBody 0) s

/-- `BIT 0,E` (R220). -/
abbrev exec_bit_0_E (s : State) : Result :=
  runExtended 0x43 (.r8 .e) (.r8 .e) (bitBody 0) s

/-- `BIT 0,H` (R220). -/
abbrev exec_bit_0_H (s : State) : Result :=
  runExtended 0x44 (.r8 .h) (.r8 .h) (bitBody 0) s

/-- `BIT 0,L` (R220). -/
abbrev exec_bit_0_L (s : State) : Result :=
  runExtended 0x45 (.r8 .l) (.r8 .l) (bitBody 0) s

/-- `BIT 0,(HL)` (R220). -/
abbrev exec_bit_0_indHL (s : State) : Result :=
  runExtended 0x46 .indHL .indHL (bitBody 0) s

/-- `BIT 0,A` (R220). -/
abbrev exec_bit_0_A (s : State) : Result :=
  runExtended 0x47 (.r8 .a) (.r8 .a) (bitBody 0) s

/-- `BIT 1,B` (R220). -/
abbrev exec_bit_1_B (s : State) : Result :=
  runExtended 0x48 (.r8 .b) (.r8 .b) (bitBody 1) s

/-- `BIT 1,C` (R220). -/
abbrev exec_bit_1_C (s : State) : Result :=
  runExtended 0x49 (.r8 .c) (.r8 .c) (bitBody 1) s

/-- `BIT 1,D` (R220). -/
abbrev exec_bit_1_D (s : State) : Result :=
  runExtended 0x4A (.r8 .d) (.r8 .d) (bitBody 1) s

/-- `BIT 1,E` (R220). -/
abbrev exec_bit_1_E (s : State) : Result :=
  runExtended 0x4B (.r8 .e) (.r8 .e) (bitBody 1) s

/-- `BIT 1,H` (R220). -/
abbrev exec_bit_1_H (s : State) : Result :=
  runExtended 0x4C (.r8 .h) (.r8 .h) (bitBody 1) s

/-- `BIT 1,L` (R220). -/
abbrev exec_bit_1_L (s : State) : Result :=
  runExtended 0x4D (.r8 .l) (.r8 .l) (bitBody 1) s

/-- `BIT 1,(HL)` (R220). -/
abbrev exec_bit_1_indHL (s : State) : Result :=
  runExtended 0x4E .indHL .indHL (bitBody 1) s

/-- `BIT 1,A` (R220). -/
abbrev exec_bit_1_A (s : State) : Result :=
  runExtended 0x4F (.r8 .a) (.r8 .a) (bitBody 1) s

/-- `BIT 2,B` (R220). -/
abbrev exec_bit_2_B (s : State) : Result :=
  runExtended 0x50 (.r8 .b) (.r8 .b) (bitBody 2) s

/-- `BIT 2,C` (R220). -/
abbrev exec_bit_2_C (s : State) : Result :=
  runExtended 0x51 (.r8 .c) (.r8 .c) (bitBody 2) s

/-- `BIT 2,D` (R220). -/
abbrev exec_bit_2_D (s : State) : Result :=
  runExtended 0x52 (.r8 .d) (.r8 .d) (bitBody 2) s

/-- `BIT 2,E` (R220). -/
abbrev exec_bit_2_E (s : State) : Result :=
  runExtended 0x53 (.r8 .e) (.r8 .e) (bitBody 2) s

/-- `BIT 2,H` (R220). -/
abbrev exec_bit_2_H (s : State) : Result :=
  runExtended 0x54 (.r8 .h) (.r8 .h) (bitBody 2) s

/-- `BIT 2,L` (R220). -/
abbrev exec_bit_2_L (s : State) : Result :=
  runExtended 0x55 (.r8 .l) (.r8 .l) (bitBody 2) s

/-- `BIT 2,(HL)` (R220). -/
abbrev exec_bit_2_indHL (s : State) : Result :=
  runExtended 0x56 .indHL .indHL (bitBody 2) s

/-- `BIT 2,A` (R220). -/
abbrev exec_bit_2_A (s : State) : Result :=
  runExtended 0x57 (.r8 .a) (.r8 .a) (bitBody 2) s

/-- `BIT 3,B` (R220). -/
abbrev exec_bit_3_B (s : State) : Result :=
  runExtended 0x58 (.r8 .b) (.r8 .b) (bitBody 3) s

/-- `BIT 3,C` (R220). -/
abbrev exec_bit_3_C (s : State) : Result :=
  runExtended 0x59 (.r8 .c) (.r8 .c) (bitBody 3) s

/-- `BIT 3,D` (R220). -/
abbrev exec_bit_3_D (s : State) : Result :=
  runExtended 0x5A (.r8 .d) (.r8 .d) (bitBody 3) s

/-- `BIT 3,E` (R220). -/
abbrev exec_bit_3_E (s : State) : Result :=
  runExtended 0x5B (.r8 .e) (.r8 .e) (bitBody 3) s

/-- `BIT 3,H` (R220). -/
abbrev exec_bit_3_H (s : State) : Result :=
  runExtended 0x5C (.r8 .h) (.r8 .h) (bitBody 3) s

/-- `BIT 3,L` (R220). -/
abbrev exec_bit_3_L (s : State) : Result :=
  runExtended 0x5D (.r8 .l) (.r8 .l) (bitBody 3) s

/-- `BIT 3,(HL)` (R220). -/
abbrev exec_bit_3_indHL (s : State) : Result :=
  runExtended 0x5E .indHL .indHL (bitBody 3) s

/-- `BIT 3,A` (R220). -/
abbrev exec_bit_3_A (s : State) : Result :=
  runExtended 0x5F (.r8 .a) (.r8 .a) (bitBody 3) s

/-- `BIT 4,B` (R220). -/
abbrev exec_bit_4_B (s : State) : Result :=
  runExtended 0x60 (.r8 .b) (.r8 .b) (bitBody 4) s

/-- `BIT 4,C` (R220). -/
abbrev exec_bit_4_C (s : State) : Result :=
  runExtended 0x61 (.r8 .c) (.r8 .c) (bitBody 4) s

/-- `BIT 4,D` (R220). -/
abbrev exec_bit_4_D (s : State) : Result :=
  runExtended 0x62 (.r8 .d) (.r8 .d) (bitBody 4) s

/-- `BIT 4,E` (R220). -/
abbrev exec_bit_4_E (s : State) : Result :=
  runExtended 0x63 (.r8 .e) (.r8 .e) (bitBody 4) s

/-- `BIT 4,H` (R220). -/
abbrev exec_bit_4_H (s : State) : Result :=
  runExtended 0x64 (.r8 .h) (.r8 .h) (bitBody 4) s

/-- `BIT 4,L` (R220). -/
abbrev exec_bit_4_L (s : State) : Result :=
  runExtended 0x65 (.r8 .l) (.r8 .l) (bitBody 4) s

/-- `BIT 4,(HL)` (R220). -/
abbrev exec_bit_4_indHL (s : State) : Result :=
  runExtended 0x66 .indHL .indHL (bitBody 4) s

/-- `BIT 4,A` (R220). -/
abbrev exec_bit_4_A (s : State) : Result :=
  runExtended 0x67 (.r8 .a) (.r8 .a) (bitBody 4) s

/-- `BIT 5,B` (R220). -/
abbrev exec_bit_5_B (s : State) : Result :=
  runExtended 0x68 (.r8 .b) (.r8 .b) (bitBody 5) s

/-- `BIT 5,C` (R220). -/
abbrev exec_bit_5_C (s : State) : Result :=
  runExtended 0x69 (.r8 .c) (.r8 .c) (bitBody 5) s

/-- `BIT 5,D` (R220). -/
abbrev exec_bit_5_D (s : State) : Result :=
  runExtended 0x6A (.r8 .d) (.r8 .d) (bitBody 5) s

/-- `BIT 5,E` (R220). -/
abbrev exec_bit_5_E (s : State) : Result :=
  runExtended 0x6B (.r8 .e) (.r8 .e) (bitBody 5) s

/-- `BIT 5,H` (R220). -/
abbrev exec_bit_5_H (s : State) : Result :=
  runExtended 0x6C (.r8 .h) (.r8 .h) (bitBody 5) s

/-- `BIT 5,L` (R220). -/
abbrev exec_bit_5_L (s : State) : Result :=
  runExtended 0x6D (.r8 .l) (.r8 .l) (bitBody 5) s

/-- `BIT 5,(HL)` (R220). -/
abbrev exec_bit_5_indHL (s : State) : Result :=
  runExtended 0x6E .indHL .indHL (bitBody 5) s

/-- `BIT 5,A` (R220). -/
abbrev exec_bit_5_A (s : State) : Result :=
  runExtended 0x6F (.r8 .a) (.r8 .a) (bitBody 5) s

/-- `BIT 6,B` (R220). -/
abbrev exec_bit_6_B (s : State) : Result :=
  runExtended 0x70 (.r8 .b) (.r8 .b) (bitBody 6) s

/-- `BIT 6,C` (R220). -/
abbrev exec_bit_6_C (s : State) : Result :=
  runExtended 0x71 (.r8 .c) (.r8 .c) (bitBody 6) s

/-- `BIT 6,D` (R220). -/
abbrev exec_bit_6_D (s : State) : Result :=
  runExtended 0x72 (.r8 .d) (.r8 .d) (bitBody 6) s

/-- `BIT 6,E` (R220). -/
abbrev exec_bit_6_E (s : State) : Result :=
  runExtended 0x73 (.r8 .e) (.r8 .e) (bitBody 6) s

/-- `BIT 6,H` (R220). -/
abbrev exec_bit_6_H (s : State) : Result :=
  runExtended 0x74 (.r8 .h) (.r8 .h) (bitBody 6) s

/-- `BIT 6,L` (R220). -/
abbrev exec_bit_6_L (s : State) : Result :=
  runExtended 0x75 (.r8 .l) (.r8 .l) (bitBody 6) s

/-- `BIT 6,(HL)` (R220). -/
abbrev exec_bit_6_indHL (s : State) : Result :=
  runExtended 0x76 .indHL .indHL (bitBody 6) s

/-- `BIT 6,A` (R220). -/
abbrev exec_bit_6_A (s : State) : Result :=
  runExtended 0x77 (.r8 .a) (.r8 .a) (bitBody 6) s

/-- `BIT 7,B` (R220). -/
abbrev exec_bit_7_B (s : State) : Result :=
  runExtended 0x78 (.r8 .b) (.r8 .b) (bitBody 7) s

/-- `BIT 7,C` (R220). -/
abbrev exec_bit_7_C (s : State) : Result :=
  runExtended 0x79 (.r8 .c) (.r8 .c) (bitBody 7) s

/-- `BIT 7,D` (R220). -/
abbrev exec_bit_7_D (s : State) : Result :=
  runExtended 0x7A (.r8 .d) (.r8 .d) (bitBody 7) s

/-- `BIT 7,E` (R220). -/
abbrev exec_bit_7_E (s : State) : Result :=
  runExtended 0x7B (.r8 .e) (.r8 .e) (bitBody 7) s

/-- `BIT 7,H` (R220). -/
abbrev exec_bit_7_H (s : State) : Result :=
  runExtended 0x7C (.r8 .h) (.r8 .h) (bitBody 7) s

/-- `BIT 7,L` (R220). -/
abbrev exec_bit_7_L (s : State) : Result :=
  runExtended 0x7D (.r8 .l) (.r8 .l) (bitBody 7) s

/-- `BIT 7,(HL)` (R220). -/
abbrev exec_bit_7_indHL (s : State) : Result :=
  runExtended 0x7E .indHL .indHL (bitBody 7) s

/-- `BIT 7,A` (R220). -/
abbrev exec_bit_7_A (s : State) : Result :=
  runExtended 0x7F (.r8 .a) (.r8 .a) (bitBody 7) s

/-- `RES 0,B` (R221). -/
abbrev exec_res_0_B (s : State) : Result :=
  runExtended 0x80 (.r8 .b) (.r8 .b) (resBody 0) s

/-- `RES 0,C` (R221). -/
abbrev exec_res_0_C (s : State) : Result :=
  runExtended 0x81 (.r8 .c) (.r8 .c) (resBody 0) s

/-- `RES 0,D` (R221). -/
abbrev exec_res_0_D (s : State) : Result :=
  runExtended 0x82 (.r8 .d) (.r8 .d) (resBody 0) s

/-- `RES 0,E` (R221). -/
abbrev exec_res_0_E (s : State) : Result :=
  runExtended 0x83 (.r8 .e) (.r8 .e) (resBody 0) s

/-- `RES 0,H` (R221). -/
abbrev exec_res_0_H (s : State) : Result :=
  runExtended 0x84 (.r8 .h) (.r8 .h) (resBody 0) s

/-- `RES 0,L` (R221). -/
abbrev exec_res_0_L (s : State) : Result :=
  runExtended 0x85 (.r8 .l) (.r8 .l) (resBody 0) s

/-- `RES 0,(HL)` (R221). -/
abbrev exec_res_0_indHL (s : State) : Result :=
  runExtended 0x86 .indHL .indHL (resBody 0) s

/-- `RES 0,A` (R221). -/
abbrev exec_res_0_A (s : State) : Result :=
  runExtended 0x87 (.r8 .a) (.r8 .a) (resBody 0) s

/-- `RES 1,B` (R221). -/
abbrev exec_res_1_B (s : State) : Result :=
  runExtended 0x88 (.r8 .b) (.r8 .b) (resBody 1) s

/-- `RES 1,C` (R221). -/
abbrev exec_res_1_C (s : State) : Result :=
  runExtended 0x89 (.r8 .c) (.r8 .c) (resBody 1) s

/-- `RES 1,D` (R221). -/
abbrev exec_res_1_D (s : State) : Result :=
  runExtended 0x8A (.r8 .d) (.r8 .d) (resBody 1) s

/-- `RES 1,E` (R221). -/
abbrev exec_res_1_E (s : State) : Result :=
  runExtended 0x8B (.r8 .e) (.r8 .e) (resBody 1) s

/-- `RES 1,H` (R221). -/
abbrev exec_res_1_H (s : State) : Result :=
  runExtended 0x8C (.r8 .h) (.r8 .h) (resBody 1) s

/-- `RES 1,L` (R221). -/
abbrev exec_res_1_L (s : State) : Result :=
  runExtended 0x8D (.r8 .l) (.r8 .l) (resBody 1) s

/-- `RES 1,(HL)` (R221). -/
abbrev exec_res_1_indHL (s : State) : Result :=
  runExtended 0x8E .indHL .indHL (resBody 1) s

/-- `RES 1,A` (R221). -/
abbrev exec_res_1_A (s : State) : Result :=
  runExtended 0x8F (.r8 .a) (.r8 .a) (resBody 1) s

/-- `RES 2,B` (R221). -/
abbrev exec_res_2_B (s : State) : Result :=
  runExtended 0x90 (.r8 .b) (.r8 .b) (resBody 2) s

/-- `RES 2,C` (R221). -/
abbrev exec_res_2_C (s : State) : Result :=
  runExtended 0x91 (.r8 .c) (.r8 .c) (resBody 2) s

/-- `RES 2,D` (R221). -/
abbrev exec_res_2_D (s : State) : Result :=
  runExtended 0x92 (.r8 .d) (.r8 .d) (resBody 2) s

/-- `RES 2,E` (R221). -/
abbrev exec_res_2_E (s : State) : Result :=
  runExtended 0x93 (.r8 .e) (.r8 .e) (resBody 2) s

/-- `RES 2,H` (R221). -/
abbrev exec_res_2_H (s : State) : Result :=
  runExtended 0x94 (.r8 .h) (.r8 .h) (resBody 2) s

/-- `RES 2,L` (R221). -/
abbrev exec_res_2_L (s : State) : Result :=
  runExtended 0x95 (.r8 .l) (.r8 .l) (resBody 2) s

/-- `RES 2,(HL)` (R221). -/
abbrev exec_res_2_indHL (s : State) : Result :=
  runExtended 0x96 .indHL .indHL (resBody 2) s

/-- `RES 2,A` (R221). -/
abbrev exec_res_2_A (s : State) : Result :=
  runExtended 0x97 (.r8 .a) (.r8 .a) (resBody 2) s

/-- `RES 3,B` (R221). -/
abbrev exec_res_3_B (s : State) : Result :=
  runExtended 0x98 (.r8 .b) (.r8 .b) (resBody 3) s

/-- `RES 3,C` (R221). -/
abbrev exec_res_3_C (s : State) : Result :=
  runExtended 0x99 (.r8 .c) (.r8 .c) (resBody 3) s

/-- `RES 3,D` (R221). -/
abbrev exec_res_3_D (s : State) : Result :=
  runExtended 0x9A (.r8 .d) (.r8 .d) (resBody 3) s

/-- `RES 3,E` (R221). -/
abbrev exec_res_3_E (s : State) : Result :=
  runExtended 0x9B (.r8 .e) (.r8 .e) (resBody 3) s

/-- `RES 3,H` (R221). -/
abbrev exec_res_3_H (s : State) : Result :=
  runExtended 0x9C (.r8 .h) (.r8 .h) (resBody 3) s

/-- `RES 3,L` (R221). -/
abbrev exec_res_3_L (s : State) : Result :=
  runExtended 0x9D (.r8 .l) (.r8 .l) (resBody 3) s

/-- `RES 3,(HL)` (R221). -/
abbrev exec_res_3_indHL (s : State) : Result :=
  runExtended 0x9E .indHL .indHL (resBody 3) s

/-- `RES 3,A` (R221). -/
abbrev exec_res_3_A (s : State) : Result :=
  runExtended 0x9F (.r8 .a) (.r8 .a) (resBody 3) s

/-- `RES 4,B` (R221). -/
abbrev exec_res_4_B (s : State) : Result :=
  runExtended 0xA0 (.r8 .b) (.r8 .b) (resBody 4) s

/-- `RES 4,C` (R221). -/
abbrev exec_res_4_C (s : State) : Result :=
  runExtended 0xA1 (.r8 .c) (.r8 .c) (resBody 4) s

/-- `RES 4,D` (R221). -/
abbrev exec_res_4_D (s : State) : Result :=
  runExtended 0xA2 (.r8 .d) (.r8 .d) (resBody 4) s

/-- `RES 4,E` (R221). -/
abbrev exec_res_4_E (s : State) : Result :=
  runExtended 0xA3 (.r8 .e) (.r8 .e) (resBody 4) s

/-- `RES 4,H` (R221). -/
abbrev exec_res_4_H (s : State) : Result :=
  runExtended 0xA4 (.r8 .h) (.r8 .h) (resBody 4) s

/-- `RES 4,L` (R221). -/
abbrev exec_res_4_L (s : State) : Result :=
  runExtended 0xA5 (.r8 .l) (.r8 .l) (resBody 4) s

/-- `RES 4,(HL)` (R221). -/
abbrev exec_res_4_indHL (s : State) : Result :=
  runExtended 0xA6 .indHL .indHL (resBody 4) s

/-- `RES 4,A` (R221). -/
abbrev exec_res_4_A (s : State) : Result :=
  runExtended 0xA7 (.r8 .a) (.r8 .a) (resBody 4) s

/-- `RES 5,B` (R221). -/
abbrev exec_res_5_B (s : State) : Result :=
  runExtended 0xA8 (.r8 .b) (.r8 .b) (resBody 5) s

/-- `RES 5,C` (R221). -/
abbrev exec_res_5_C (s : State) : Result :=
  runExtended 0xA9 (.r8 .c) (.r8 .c) (resBody 5) s

/-- `RES 5,D` (R221). -/
abbrev exec_res_5_D (s : State) : Result :=
  runExtended 0xAA (.r8 .d) (.r8 .d) (resBody 5) s

/-- `RES 5,E` (R221). -/
abbrev exec_res_5_E (s : State) : Result :=
  runExtended 0xAB (.r8 .e) (.r8 .e) (resBody 5) s

/-- `RES 5,H` (R221). -/
abbrev exec_res_5_H (s : State) : Result :=
  runExtended 0xAC (.r8 .h) (.r8 .h) (resBody 5) s

/-- `RES 5,L` (R221). -/
abbrev exec_res_5_L (s : State) : Result :=
  runExtended 0xAD (.r8 .l) (.r8 .l) (resBody 5) s

/-- `RES 5,(HL)` (R221). -/
abbrev exec_res_5_indHL (s : State) : Result :=
  runExtended 0xAE .indHL .indHL (resBody 5) s

/-- `RES 5,A` (R221). -/
abbrev exec_res_5_A (s : State) : Result :=
  runExtended 0xAF (.r8 .a) (.r8 .a) (resBody 5) s

/-- `RES 6,B` (R221). -/
abbrev exec_res_6_B (s : State) : Result :=
  runExtended 0xB0 (.r8 .b) (.r8 .b) (resBody 6) s

/-- `RES 6,C` (R221). -/
abbrev exec_res_6_C (s : State) : Result :=
  runExtended 0xB1 (.r8 .c) (.r8 .c) (resBody 6) s

/-- `RES 6,D` (R221). -/
abbrev exec_res_6_D (s : State) : Result :=
  runExtended 0xB2 (.r8 .d) (.r8 .d) (resBody 6) s

/-- `RES 6,E` (R221). -/
abbrev exec_res_6_E (s : State) : Result :=
  runExtended 0xB3 (.r8 .e) (.r8 .e) (resBody 6) s

/-- `RES 6,H` (R221). -/
abbrev exec_res_6_H (s : State) : Result :=
  runExtended 0xB4 (.r8 .h) (.r8 .h) (resBody 6) s

/-- `RES 6,L` (R221). -/
abbrev exec_res_6_L (s : State) : Result :=
  runExtended 0xB5 (.r8 .l) (.r8 .l) (resBody 6) s

/-- `RES 6,(HL)` (R221). -/
abbrev exec_res_6_indHL (s : State) : Result :=
  runExtended 0xB6 .indHL .indHL (resBody 6) s

/-- `RES 6,A` (R221). -/
abbrev exec_res_6_A (s : State) : Result :=
  runExtended 0xB7 (.r8 .a) (.r8 .a) (resBody 6) s

/-- `RES 7,B` (R221). -/
abbrev exec_res_7_B (s : State) : Result :=
  runExtended 0xB8 (.r8 .b) (.r8 .b) (resBody 7) s

/-- `RES 7,C` (R221). -/
abbrev exec_res_7_C (s : State) : Result :=
  runExtended 0xB9 (.r8 .c) (.r8 .c) (resBody 7) s

/-- `RES 7,D` (R221). -/
abbrev exec_res_7_D (s : State) : Result :=
  runExtended 0xBA (.r8 .d) (.r8 .d) (resBody 7) s

/-- `RES 7,E` (R221). -/
abbrev exec_res_7_E (s : State) : Result :=
  runExtended 0xBB (.r8 .e) (.r8 .e) (resBody 7) s

/-- `RES 7,H` (R221). -/
abbrev exec_res_7_H (s : State) : Result :=
  runExtended 0xBC (.r8 .h) (.r8 .h) (resBody 7) s

/-- `RES 7,L` (R221). -/
abbrev exec_res_7_L (s : State) : Result :=
  runExtended 0xBD (.r8 .l) (.r8 .l) (resBody 7) s

/-- `RES 7,(HL)` (R221). -/
abbrev exec_res_7_indHL (s : State) : Result :=
  runExtended 0xBE .indHL .indHL (resBody 7) s

/-- `RES 7,A` (R221). -/
abbrev exec_res_7_A (s : State) : Result :=
  runExtended 0xBF (.r8 .a) (.r8 .a) (resBody 7) s

/-- `SET 0,B` (R222). -/
abbrev exec_set_0_B (s : State) : Result :=
  runExtended 0xC0 (.r8 .b) (.r8 .b) (setBody 0) s

/-- `SET 0,C` (R222). -/
abbrev exec_set_0_C (s : State) : Result :=
  runExtended 0xC1 (.r8 .c) (.r8 .c) (setBody 0) s

/-- `SET 0,D` (R222). -/
abbrev exec_set_0_D (s : State) : Result :=
  runExtended 0xC2 (.r8 .d) (.r8 .d) (setBody 0) s

/-- `SET 0,E` (R222). -/
abbrev exec_set_0_E (s : State) : Result :=
  runExtended 0xC3 (.r8 .e) (.r8 .e) (setBody 0) s

/-- `SET 0,H` (R222). -/
abbrev exec_set_0_H (s : State) : Result :=
  runExtended 0xC4 (.r8 .h) (.r8 .h) (setBody 0) s

/-- `SET 0,L` (R222). -/
abbrev exec_set_0_L (s : State) : Result :=
  runExtended 0xC5 (.r8 .l) (.r8 .l) (setBody 0) s

/-- `SET 0,(HL)` (R222). -/
abbrev exec_set_0_indHL (s : State) : Result :=
  runExtended 0xC6 .indHL .indHL (setBody 0) s

/-- `SET 0,A` (R222). -/
abbrev exec_set_0_A (s : State) : Result :=
  runExtended 0xC7 (.r8 .a) (.r8 .a) (setBody 0) s

/-- `SET 1,B` (R222). -/
abbrev exec_set_1_B (s : State) : Result :=
  runExtended 0xC8 (.r8 .b) (.r8 .b) (setBody 1) s

/-- `SET 1,C` (R222). -/
abbrev exec_set_1_C (s : State) : Result :=
  runExtended 0xC9 (.r8 .c) (.r8 .c) (setBody 1) s

/-- `SET 1,D` (R222). -/
abbrev exec_set_1_D (s : State) : Result :=
  runExtended 0xCA (.r8 .d) (.r8 .d) (setBody 1) s

/-- `SET 1,E` (R222). -/
abbrev exec_set_1_E (s : State) : Result :=
  runExtended 0xCB (.r8 .e) (.r8 .e) (setBody 1) s

/-- `SET 1,H` (R222). -/
abbrev exec_set_1_H (s : State) : Result :=
  runExtended 0xCC (.r8 .h) (.r8 .h) (setBody 1) s

/-- `SET 1,L` (R222). -/
abbrev exec_set_1_L (s : State) : Result :=
  runExtended 0xCD (.r8 .l) (.r8 .l) (setBody 1) s

/-- `SET 1,(HL)` (R222). -/
abbrev exec_set_1_indHL (s : State) : Result :=
  runExtended 0xCE .indHL .indHL (setBody 1) s

/-- `SET 1,A` (R222). -/
abbrev exec_set_1_A (s : State) : Result :=
  runExtended 0xCF (.r8 .a) (.r8 .a) (setBody 1) s

/-- `SET 2,B` (R222). -/
abbrev exec_set_2_B (s : State) : Result :=
  runExtended 0xD0 (.r8 .b) (.r8 .b) (setBody 2) s

/-- `SET 2,C` (R222). -/
abbrev exec_set_2_C (s : State) : Result :=
  runExtended 0xD1 (.r8 .c) (.r8 .c) (setBody 2) s

/-- `SET 2,D` (R222). -/
abbrev exec_set_2_D (s : State) : Result :=
  runExtended 0xD2 (.r8 .d) (.r8 .d) (setBody 2) s

/-- `SET 2,E` (R222). -/
abbrev exec_set_2_E (s : State) : Result :=
  runExtended 0xD3 (.r8 .e) (.r8 .e) (setBody 2) s

/-- `SET 2,H` (R222). -/
abbrev exec_set_2_H (s : State) : Result :=
  runExtended 0xD4 (.r8 .h) (.r8 .h) (setBody 2) s

/-- `SET 2,L` (R222). -/
abbrev exec_set_2_L (s : State) : Result :=
  runExtended 0xD5 (.r8 .l) (.r8 .l) (setBody 2) s

/-- `SET 2,(HL)` (R222). -/
abbrev exec_set_2_indHL (s : State) : Result :=
  runExtended 0xD6 .indHL .indHL (setBody 2) s

/-- `SET 2,A` (R222). -/
abbrev exec_set_2_A (s : State) : Result :=
  runExtended 0xD7 (.r8 .a) (.r8 .a) (setBody 2) s

/-- `SET 3,B` (R222). -/
abbrev exec_set_3_B (s : State) : Result :=
  runExtended 0xD8 (.r8 .b) (.r8 .b) (setBody 3) s

/-- `SET 3,C` (R222). -/
abbrev exec_set_3_C (s : State) : Result :=
  runExtended 0xD9 (.r8 .c) (.r8 .c) (setBody 3) s

/-- `SET 3,D` (R222). -/
abbrev exec_set_3_D (s : State) : Result :=
  runExtended 0xDA (.r8 .d) (.r8 .d) (setBody 3) s

/-- `SET 3,E` (R222). -/
abbrev exec_set_3_E (s : State) : Result :=
  runExtended 0xDB (.r8 .e) (.r8 .e) (setBody 3) s

/-- `SET 3,H` (R222). -/
abbrev exec_set_3_H (s : State) : Result :=
  runExtended 0xDC (.r8 .h) (.r8 .h) (setBody 3) s

/-- `SET 3,L` (R222). -/
abbrev exec_set_3_L (s : State) : Result :=
  runExtended 0xDD (.r8 .l) (.r8 .l) (setBody 3) s

/-- `SET 3,(HL)` (R222). -/
abbrev exec_set_3_indHL (s : State) : Result :=
  runExtended 0xDE .indHL .indHL (setBody 3) s

/-- `SET 3,A` (R222). -/
abbrev exec_set_3_A (s : State) : Result :=
  runExtended 0xDF (.r8 .a) (.r8 .a) (setBody 3) s

/-- `SET 4,B` (R222). -/
abbrev exec_set_4_B (s : State) : Result :=
  runExtended 0xE0 (.r8 .b) (.r8 .b) (setBody 4) s

/-- `SET 4,C` (R222). -/
abbrev exec_set_4_C (s : State) : Result :=
  runExtended 0xE1 (.r8 .c) (.r8 .c) (setBody 4) s

/-- `SET 4,D` (R222). -/
abbrev exec_set_4_D (s : State) : Result :=
  runExtended 0xE2 (.r8 .d) (.r8 .d) (setBody 4) s

/-- `SET 4,E` (R222). -/
abbrev exec_set_4_E (s : State) : Result :=
  runExtended 0xE3 (.r8 .e) (.r8 .e) (setBody 4) s

/-- `SET 4,H` (R222). -/
abbrev exec_set_4_H (s : State) : Result :=
  runExtended 0xE4 (.r8 .h) (.r8 .h) (setBody 4) s

/-- `SET 4,L` (R222). -/
abbrev exec_set_4_L (s : State) : Result :=
  runExtended 0xE5 (.r8 .l) (.r8 .l) (setBody 4) s

/-- `SET 4,(HL)` (R222). -/
abbrev exec_set_4_indHL (s : State) : Result :=
  runExtended 0xE6 .indHL .indHL (setBody 4) s

/-- `SET 4,A` (R222). -/
abbrev exec_set_4_A (s : State) : Result :=
  runExtended 0xE7 (.r8 .a) (.r8 .a) (setBody 4) s

/-- `SET 5,B` (R222). -/
abbrev exec_set_5_B (s : State) : Result :=
  runExtended 0xE8 (.r8 .b) (.r8 .b) (setBody 5) s

/-- `SET 5,C` (R222). -/
abbrev exec_set_5_C (s : State) : Result :=
  runExtended 0xE9 (.r8 .c) (.r8 .c) (setBody 5) s

/-- `SET 5,D` (R222). -/
abbrev exec_set_5_D (s : State) : Result :=
  runExtended 0xEA (.r8 .d) (.r8 .d) (setBody 5) s

/-- `SET 5,E` (R222). -/
abbrev exec_set_5_E (s : State) : Result :=
  runExtended 0xEB (.r8 .e) (.r8 .e) (setBody 5) s

/-- `SET 5,H` (R222). -/
abbrev exec_set_5_H (s : State) : Result :=
  runExtended 0xEC (.r8 .h) (.r8 .h) (setBody 5) s

/-- `SET 5,L` (R222). -/
abbrev exec_set_5_L (s : State) : Result :=
  runExtended 0xED (.r8 .l) (.r8 .l) (setBody 5) s

/-- `SET 5,(HL)` (R222). -/
abbrev exec_set_5_indHL (s : State) : Result :=
  runExtended 0xEE .indHL .indHL (setBody 5) s

/-- `SET 5,A` (R222). -/
abbrev exec_set_5_A (s : State) : Result :=
  runExtended 0xEF (.r8 .a) (.r8 .a) (setBody 5) s

/-- `SET 6,B` (R222). -/
abbrev exec_set_6_B (s : State) : Result :=
  runExtended 0xF0 (.r8 .b) (.r8 .b) (setBody 6) s

/-- `SET 6,C` (R222). -/
abbrev exec_set_6_C (s : State) : Result :=
  runExtended 0xF1 (.r8 .c) (.r8 .c) (setBody 6) s

/-- `SET 6,D` (R222). -/
abbrev exec_set_6_D (s : State) : Result :=
  runExtended 0xF2 (.r8 .d) (.r8 .d) (setBody 6) s

/-- `SET 6,E` (R222). -/
abbrev exec_set_6_E (s : State) : Result :=
  runExtended 0xF3 (.r8 .e) (.r8 .e) (setBody 6) s

/-- `SET 6,H` (R222). -/
abbrev exec_set_6_H (s : State) : Result :=
  runExtended 0xF4 (.r8 .h) (.r8 .h) (setBody 6) s

/-- `SET 6,L` (R222). -/
abbrev exec_set_6_L (s : State) : Result :=
  runExtended 0xF5 (.r8 .l) (.r8 .l) (setBody 6) s

/-- `SET 6,(HL)` (R222). -/
abbrev exec_set_6_indHL (s : State) : Result :=
  runExtended 0xF6 .indHL .indHL (setBody 6) s

/-- `SET 6,A` (R222). -/
abbrev exec_set_6_A (s : State) : Result :=
  runExtended 0xF7 (.r8 .a) (.r8 .a) (setBody 6) s

/-- `SET 7,B` (R222). -/
abbrev exec_set_7_B (s : State) : Result :=
  runExtended 0xF8 (.r8 .b) (.r8 .b) (setBody 7) s

/-- `SET 7,C` (R222). -/
abbrev exec_set_7_C (s : State) : Result :=
  runExtended 0xF9 (.r8 .c) (.r8 .c) (setBody 7) s

/-- `SET 7,D` (R222). -/
abbrev exec_set_7_D (s : State) : Result :=
  runExtended 0xFA (.r8 .d) (.r8 .d) (setBody 7) s

/-- `SET 7,E` (R222). -/
abbrev exec_set_7_E (s : State) : Result :=
  runExtended 0xFB (.r8 .e) (.r8 .e) (setBody 7) s

/-- `SET 7,H` (R222). -/
abbrev exec_set_7_H (s : State) : Result :=
  runExtended 0xFC (.r8 .h) (.r8 .h) (setBody 7) s

/-- `SET 7,L` (R222). -/
abbrev exec_set_7_L (s : State) : Result :=
  runExtended 0xFD (.r8 .l) (.r8 .l) (setBody 7) s

/-- `SET 7,(HL)` (R222). -/
abbrev exec_set_7_indHL (s : State) : Result :=
  runExtended 0xFE .indHL .indHL (setBody 7) s

/-- `SET 7,A` (R222). -/
abbrev exec_set_7_A (s : State) : Result :=
  runExtended 0xFF (.r8 .a) (.r8 .a) (setBody 7) s

end Sys2Proof.Machine
end

