-- ==== Sys2Proof/Machine/Control.lean ====
section
/-!
DEFINITION. Sys2Proof/Machine/Control.lean: control transfers (spec 47_control.md R230 to R242). In every body PC is the address of
the next sequential instruction (R25). No instruction here writes F.
-/

namespace Sys2Proof.Machine

/-! ### Bodies -/

/-- `JP a16`, `JP HL` (R231, R233). -/
def jpBody : Body := fun src _ s => .done (s.setPc (s.read16 src))

/-- `JP cc,a16` (R232). -/
def jpCondBody (cc : Cond) : Body := fun src dst s => if s.holds cc then jpBody src dst s else .done s

/-- `JR e8`: relative to the address after the operand; the flags of the addition are discarded (R234). -/
def jrBody : Body := fun src _ s => .done (s.setPc (addrel16 s.pc (s.read8 src)).r)

/-- `JR cc,e8` (R235). -/
def jrCondBody (cc : Cond) : Body := fun src dst s => if s.holds cc then jrBody src dst s else .done s

/-- `CALL a16`: the target is read before the pushes (R236, D19). -/
def callBody : Body := fun src _ s => .done ((s.push16 s.pc).setPc (s.read16 src))

/-- `CALL cc,a16` (R237). -/
def callCondBody (cc : Cond) : Body := fun src dst s => if s.holds cc then callBody src dst s else .done s

/-- `RET` (R238). -/
def retBody : Body := fun _ _ s => .done s.returnFromCall

/-- `RET cc` (R239). -/
def retCondBody (cc : Cond) : Body := fun src dst s => if s.holds cc then retBody src dst s else .done s

/-- `RETI` (R240, R271). -/
def retiBody : Body := fun _ _ s => .done s.returnFromInterrupt

/-- `RST n` (R241). -/
def rstBody (n : Word) : Body := fun _ _ s => .done ((s.push16 s.pc).setPc n)

/-! ### The meanings, one per opcode table row -/

/-- `JR e8` (R234). -/
abbrev exec_jr_e8 (e8 : Byte) (s : State) : Result :=
  runPrimary 0x18 (.d8 e8) .none jrBody s

/-- `JR NZ,e8` (R235). -/
abbrev exec_jr_NZ_e8 (e8 : Byte) (s : State) : Result :=
  runPrimary 0x20 (.d8 e8) .none (jrCondBody .nz) s

/-- `JR Z,e8` (R235). -/
abbrev exec_jr_Z_e8 (e8 : Byte) (s : State) : Result :=
  runPrimary 0x28 (.d8 e8) .none (jrCondBody .z) s

/-- `JR NC,e8` (R235). -/
abbrev exec_jr_NC_e8 (e8 : Byte) (s : State) : Result :=
  runPrimary 0x30 (.d8 e8) .none (jrCondBody .nc) s

/-- `JR C,e8` (R235). -/
abbrev exec_jr_C_e8 (e8 : Byte) (s : State) : Result :=
  runPrimary 0x38 (.d8 e8) .none (jrCondBody .c) s

/-- `RET NZ` (R239). -/
abbrev exec_ret_NZ (s : State) : Result :=
  runPrimary 0xC0 .none .none (retCondBody .nz) s

/-- `JP NZ,a16` (R232). -/
abbrev exec_jp_NZ_a16 (a16 : Word) (s : State) : Result :=
  runPrimary 0xC2 (.d16 a16) .none (jpCondBody .nz) s

/-- `JP a16` (R231). -/
abbrev exec_jp_a16 (a16 : Word) (s : State) : Result :=
  runPrimary 0xC3 (.d16 a16) .none jpBody s

/-- `CALL NZ,a16` (R237). -/
abbrev exec_call_NZ_a16 (a16 : Word) (s : State) : Result :=
  runPrimary 0xC4 (.d16 a16) .none (callCondBody .nz) s

/-- `RST 00H` (R241). -/
abbrev exec_rst_00 (s : State) : Result :=
  runPrimary 0xC7 .none .none (rstBody 0x00) s

/-- `RET Z` (R239). -/
abbrev exec_ret_Z (s : State) : Result :=
  runPrimary 0xC8 .none .none (retCondBody .z) s

/-- `RET` (R238). -/
abbrev exec_ret (s : State) : Result :=
  runPrimary 0xC9 .none .none retBody s

/-- `JP Z,a16` (R232). -/
abbrev exec_jp_Z_a16 (a16 : Word) (s : State) : Result :=
  runPrimary 0xCA (.d16 a16) .none (jpCondBody .z) s

/-- `CALL Z,a16` (R237). -/
abbrev exec_call_Z_a16 (a16 : Word) (s : State) : Result :=
  runPrimary 0xCC (.d16 a16) .none (callCondBody .z) s

/-- `CALL a16` (R236). -/
abbrev exec_call_a16 (a16 : Word) (s : State) : Result :=
  runPrimary 0xCD (.d16 a16) .none callBody s

/-- `RST 08H` (R241). -/
abbrev exec_rst_08 (s : State) : Result :=
  runPrimary 0xCF .none .none (rstBody 0x08) s

/-- `RET NC` (R239). -/
abbrev exec_ret_NC (s : State) : Result :=
  runPrimary 0xD0 .none .none (retCondBody .nc) s

/-- `JP NC,a16` (R232). -/
abbrev exec_jp_NC_a16 (a16 : Word) (s : State) : Result :=
  runPrimary 0xD2 (.d16 a16) .none (jpCondBody .nc) s

/-- `CALL NC,a16` (R237). -/
abbrev exec_call_NC_a16 (a16 : Word) (s : State) : Result :=
  runPrimary 0xD4 (.d16 a16) .none (callCondBody .nc) s

/-- `RST 10H` (R241). -/
abbrev exec_rst_10 (s : State) : Result :=
  runPrimary 0xD7 .none .none (rstBody 0x10) s

/-- `RET C` (R239). -/
abbrev exec_ret_C (s : State) : Result :=
  runPrimary 0xD8 .none .none (retCondBody .c) s

/-- `RETI` (R240). -/
abbrev exec_reti (s : State) : Result :=
  runPrimary 0xD9 .none .none retiBody s

/-- `JP C,a16` (R232). -/
abbrev exec_jp_C_a16 (a16 : Word) (s : State) : Result :=
  runPrimary 0xDA (.d16 a16) .none (jpCondBody .c) s

/-- `CALL C,a16` (R237). -/
abbrev exec_call_C_a16 (a16 : Word) (s : State) : Result :=
  runPrimary 0xDC (.d16 a16) .none (callCondBody .c) s

/-- `RST 18H` (R241). -/
abbrev exec_rst_18 (s : State) : Result :=
  runPrimary 0xDF .none .none (rstBody 0x18) s

/-- `RST 20H` (R241). -/
abbrev exec_rst_20 (s : State) : Result :=
  runPrimary 0xE7 .none .none (rstBody 0x20) s

/-- `JP HL` (R233). -/
abbrev exec_jp_HL (s : State) : Result :=
  runPrimary 0xE9 (.r16 .hl) .none jpBody s

/-- `RST 28H` (R241). -/
abbrev exec_rst_28 (s : State) : Result :=
  runPrimary 0xEF .none .none (rstBody 0x28) s

/-- `RST 30H` (R241). -/
abbrev exec_rst_30 (s : State) : Result :=
  runPrimary 0xF7 .none .none (rstBody 0x30) s

/-- `RST 38H` (R241). -/
abbrev exec_rst_38 (s : State) : Result :=
  runPrimary 0xFF .none .none (rstBody 0x38) s

end Sys2Proof.Machine
end

