-- ==== Sys2Proof/Machine/System.lean ====
section
/-!
DEFINITION. Sys2Proof/Machine/System.lean: NOP, DI, EI, the thirteen unset opcodes and the prefix byte (spec 48_system.md R250 to
R257). An unset opcode is the unknown-opcode crash: a next state with CRASH set (R262).
-/

namespace Sys2Proof.Machine

/-! ### Bodies -/

/-- `NOP` (R250). -/
def nopBody : Body := fun _ _ s => .done s

/-- `DI`: at once (R251). -/
def diBody : Body := fun _ _ s => .done (s.setIme false)

/-- `EI`: at once, with no delay, and nothing is dispatched (R252, R267). -/
def eiBody : Body := fun _ _ s => .done (s.setIme true)

/-- The body of an extended table entry by its fields `x` and `y` (R83, R204, R220 to R222). -/
def extendedBody (op : Byte) : Body :=
  match fieldX op with
  | 0 => rotBody (rotate8 (RotOp.ofCode (fieldY op)))
  | 1 => bitBody (fieldY op)
  | 2 => resBody (fieldY op)
  | _ => setBody (fieldY op)

/-! ### The meanings, one per opcode table row -/

/-- `NOP` (R250). -/
abbrev exec_nop (s : State) : Result :=
  runPrimary 0x00 .none .none nopBody s

/-- `STOP` (R254). -/
abbrev exec_stop (s : State) : Result :=
  runUnset 0x10 s

/-- `HALT` (R253). -/
abbrev exec_halt (s : State) : Result :=
  runUnset 0x76 s

/-- The unassigned opcode 0xD3 (R255). -/
abbrev exec_illegal_D3 (s : State) : Result :=
  runUnset 0xD3 s

/-- The unassigned opcode 0xDB (R255). -/
abbrev exec_illegal_DB (s : State) : Result :=
  runUnset 0xDB s

/-- The unassigned opcode 0xDD (R255). -/
abbrev exec_illegal_DD (s : State) : Result :=
  runUnset 0xDD s

/-- The unassigned opcode 0xE3 (R255). -/
abbrev exec_illegal_E3 (s : State) : Result :=
  runUnset 0xE3 s

/-- The unassigned opcode 0xE4 (R255). -/
abbrev exec_illegal_E4 (s : State) : Result :=
  runUnset 0xE4 s

/-- The unassigned opcode 0xEB (R255). -/
abbrev exec_illegal_EB (s : State) : Result :=
  runUnset 0xEB s

/-- The unassigned opcode 0xEC (R255). -/
abbrev exec_illegal_EC (s : State) : Result :=
  runUnset 0xEC s

/-- The unassigned opcode 0xED (R255). -/
abbrev exec_illegal_ED (s : State) : Result :=
  runUnset 0xED s

/-- `DI` (R251). -/
abbrev exec_di (s : State) : Result :=
  runPrimary 0xF3 .none .none diBody s

/-- The unassigned opcode 0xF4 (R255). -/
abbrev exec_illegal_F4 (s : State) : Result :=
  runUnset 0xF4 s

/-- `EI` (R252). -/
abbrev exec_ei (s : State) : Result :=
  runPrimary 0xFB .none .none eiBody s

/-- The unassigned opcode 0xFC (R255). -/
abbrev exec_illegal_FC (s : State) : Result :=
  runUnset 0xFC s

/-- The unassigned opcode 0xFD (R255). -/
abbrev exec_illegal_FD (s : State) : Result :=
  runUnset 0xFD s

/-- `PREFIX CB` (R256): ExtendedFetch. The byte after the prefix indexes the extended table, and that entry's body runs on
its operand `r[z]`, in the same step. The decoder never answers this instruction: it reads the two bytes as one
(notes/assumptions/5.md). -/
abbrev exec_prefix_CB (s : State) : Result :=
  let ext := s.readByte (s.pc + 1)
  let operand := operandMode (R8.ofCode (fieldZ ext))
  runExtended ext operand operand (extendedBody ext) s

end Sys2Proof.Machine
end

