-- ==== Sys2Proof/Machine/Step.lean ====
section
/-!
DEFINITION. Sys2Proof/Machine/Step.lean: one step of the machine (spec 40_engine.md R115), and placing an instruction where
the next step fetches it.
-/

namespace Sys2Proof.Machine

/-- `Step()`: nothing at all once Crashed (R118); else fetch, execute, and what follows Execute (R115). -/
def step (s : State) : Host.Outcome State Fault Refusal :=
  if s.crash.isSome then .next s
  else
    match exec s.fetchInstr s with
    | .next t => .next (t.retire s.pc s.fetchOpcode)
    | .fault r => .fault r
    | .refused r => .refused r

/-- `s` with the instruction of `nbits` bits `w` (every later bit of the longest instruction zero) stored where the next
step fetches: three plain stores from PC on, first byte at PC. CRASH is cleared, since no step fetches while it is set
(R118). It stands for the host's load (R305; notes/assumptions/6.md). -/
def State.withFetchWord (s : State) (nbits w : Nat) : State :=
  let bits := w % 2 ^ nbits
  let s1 := s.storeByte s.pc (BitVec.ofNat 8 bits)
  let s2 := s1.storeByte (s.pc + 1) (BitVec.ofNat 8 (bits / 256))
  let s3 := s2.storeByte (s.pc + 2) (BitVec.ofNat 8 (bits / 65536))
  { s3 with crash := none }

end Sys2Proof.Machine
end

