-- ==== Sys2Proof/Machine/Launch.lean ====
section
/-!
DEFINITION. Sys2Proof/Machine/Launch.lean: what the host can do to the machine between steps (spec
70_reset_and_hazards.md R300 to R309, 60_exceptions.md R283, R284). None of it is an instruction.
-/

namespace Sys2Proof.Machine

/-- Power-on: every register and every byte of memory zero, nothing crashed, counted or sent, for a machine whose Serial
Link Buffer has the given capacity (R300, R302). -/
def State.powerOn (serialCapacity : Nat) : State where
  af := 0
  bc := 0
  de := 0
  hl := 0
  sp := 0
  pc := 0
  ime := false
  mem := []
  crash := none
  icount := 0
  serial := []
  serialEol := false
  serialCapacity := serialCapacity

/-- `Reset()`: the six registers at their post-boot values and IME 0; memory, CRASH, ICOUNT and the serial buffer stay
(R301, D6). -/
def State.hostReset (s : State) : State :=
  { s with af := 0x01B0, bc := 0x0013, de := 0x00D8, hl := 0x014D, sp := 0xFFFE, pc := 0x0100, ime := false }

/-- The bytes of an image stored one after another from the address `a` on, each a plain store. -/
def Memory.loadFrom (m : Memory) (a : Nat) (image : List Byte) : Memory :=
  match image with
  | [] => m
  | b :: rest => Memory.loadFrom (Memory.write m a b) (a + 1) rest

/-- `Load(IMAGE)`: the image from address 0x0000 on, what lies beyond 65,536 bytes ignored (R305). -/
def State.load (s : State) (image : List Byte) : State :=
  { s with mem := Memory.loadFrom s.mem 0 (image.take Config.addressSpaceSize) }

/-- `Launch(IMAGE)`: power-on, load, reset (R303); the host then steps. -/
def State.launch (serialCapacity : Nat) (image : List Byte) : State :=
  ((State.powerOn serialCapacity).load image).hostReset

/-- A host write of one byte: a plain store, no hook (R308, D21). -/
def State.hostWrite (s : State) (a : Word) (v : Byte) : State := s.storeByte a v

/-- `SerialClear()` (R283). -/
def State.serialClear (s : State) : State := { s with serial := [], serialEol := false }

/-- `SerialIsEndOfLine()` (R284). -/
def State.serialIsEndOfLine (s : State) : Bool := s.serialEol

end Sys2Proof.Machine
end

