-- ==== Sys2Proof/Safety.lean ====
section
/-!
DEFINITION. Sys2Proof/Safety.lean: what a safe run is, and the invariant of the machine's reachable states.
-/

namespace Sys2Proof.Machine

/-- The Crashed state: never a state of a successful run (R118, R260). -/
def State.crashed (s : State) : Bool := s.crash.isSome

/-- `k` steps from `s` were executed, none crashed, and end in `t` (R309). -/
def SafeRun (k : Nat) (s t : State) : Prop :=
  match k with
  | 0 => s.crashed = false ∧ t = s
  | n + 1 => s.crashed = false ∧ ∃ u, step s = .next u ∧ SafeRun n u t

/-- The low four bits of F are 0 (R24). -/
def State.flagsPadded (s : State) : Bool := s.af &&& 0x000F == 0

/-- The Serial Link Buffer keeps its last slot free (R43, R282), and its end-of-line marker says whether the most recently
pushed byte was a newline (R43). -/
def State.serialConsistent (s : State) : Bool :=
  decide (s.serial.length ≤ s.serialCapacity - 1) && s.serialEol == (s.serial.getLast? == some newline)

/-- What holds of every state a run can reach: memory in its canonical form, the low four bits of F zero, the serial
buffer consistent. -/
structure State.Inv (s : State) : Prop where
  memory : Memory.wf s.mem = true
  flags  : s.flagsPadded = true
  serial : s.serialConsistent = true

end Sys2Proof.Machine
end

