-- ==== Sys2Proof/Certificates/Slice0/Obligations.lean ====
section
/-!
DEFINITION. Sys2Proof/Certificates/Slice0/Obligations.lean: the statements about the model, and the few definitions they are
written with. A statement of the form `exec i s = .next t` says three things at once: the instruction completes, what it
writes, and, since `t` is `s` with the named fields changed, that it changes nothing else (its frame). `exec i s` is at
the state before the instruction, PC at its first byte; what the step adds around it is in StepRunsDecodedInstruction.
-/

open Sys2Proof Sys2Proof.Machine

namespace Sys2Proof.Claims

/-! ### Words of the statements -/

/-- The index of an operand field `r[i]` (R82). -/
def r8Index (r : R8) : Nat :=
  match r with
  | .b => 0
  | .c => 1
  | .d => 2
  | .e => 3
  | .h => 4
  | .l => 5
  | .indHL => 6
  | .a => 7

/-- The register of an operand field, none for `(HL)` (R82). -/
def r8Reg (r : R8) : Option Reg8 :=
  match r with
  | .b => some .b
  | .c => some .c
  | .d => some .d
  | .e => some .e
  | .h => some .h
  | .l => some .l
  | .indHL => none
  | .a => some .a

/-- The value of an operand `r[z]` before the instruction: a half of a pair, or the byte at HL (R21, R82). -/
def r8Value (s : State) (r : R8) : Byte :=
  match r with
  | .b => hiByte s.bc
  | .c => loByte s.bc
  | .d => hiByte s.de
  | .e => loByte s.de
  | .h => hiByte s.hl
  | .l => loByte s.hl
  | .indHL => s.readByte s.hl
  | .a => hiByte s.af

/-- The index and the register of a pair field `rp[i]` (R82). -/
def rpIndex (p : Rp) : Nat × Reg16 :=
  match p with
  | .bc => (0, .bc)
  | .de => (1, .de)
  | .hl => (2, .hl)
  | .sp => (3, .sp)

/-- The index and the register of a pair field `rp2[i]` (R82). -/
def rp2Index (p : Rp2) : Nat × Reg16 :=
  match p with
  | .bc => (0, .bc)
  | .de => (1, .de)
  | .hl => (2, .hl)
  | .af => (3, .af)

/-- The index of a condition field (R82). -/
def condIndex (cc : Cond) : Nat :=
  match cc with
  | .nz => 0
  | .z => 1
  | .nc => 2
  | .c => 3

/-- The index of a rotate field (R82). -/
def rotIndex (op : RotOp) : Nat :=
  match op with
  | .rlc => 0
  | .rrc => 1
  | .rl => 2
  | .rr => 3
  | .sla => 4
  | .sra => 5
  | .swap => 6
  | .srl => 7

/-- When a condition holds, from bits 7 (zero) and 4 (carry) of F (R24, R230). -/
def condition (s : State) (cc : Cond) : Bool :=
  match cc with
  | .nz => !s.af.getLsbD 7
  | .z => s.af.getLsbD 7
  | .nc => !s.af.getLsbD 4
  | .c => s.af.getLsbD 4

/-- One byte, given as a number, as the opcode of an encoding. -/
def opByte (n : Nat) : Byte := BitVec.ofNat 8 n

/-- The state after an accumulator operation of `size` bytes: A and all of F written, PC past the instruction. -/
def accDone (s : State) (size : Word) (a : Byte) (z n h c : Bool) : State :=
  { s with af := wordOf a (flagByte z n h c), pc := s.pc + size }

/-- The state after the word `w` was pushed: high byte at SP - 1, low byte at SP - 2, SP two lower (R137). -/
def pushed (s : State) (w : Word) : State :=
  { s with
    sp := s.sp - 2
    mem := Memory.write (Memory.write s.mem (s.sp - 1).toNat (hiByte w)) (s.sp - 2).toNat (loByte w) }

/-- The word on top of the stack: low byte at SP, high byte at SP + 1 (R138). -/
def stackTop (s : State) : Word := wordOf (s.readByte (s.sp + 1)) (s.readByte s.sp)

/-- The five dispatching values and their vectors (R265). -/
def vectorTable : List (Byte × Word) :=
  [(0x01, 0x0040), (0x02, 0x0048), (0x04, 0x0050), (0x08, 0x0058), (0x10, 0x0060)]

/-- The state after interrupt entry from `t` (PC the address of the next instruction): IF and IME cleared, PC pushed, PC
at the vector (R266, R268). -/
def entered (t : State) (vector : Word) : State :=
  { pushed { t with ime := false, mem := Memory.write t.mem 0xFF0F 0 } t.pc with pc := vector }

/-- The dispatch condition of a store of `v` to 0xFF0F (R266). -/
abbrev dispatchable (t : State) (v : Byte) : Prop := t.ime = true ∧ v &&& t.readByte 0xFFFF = v

/-- What an instruction `i` at `s` answers that stores `v` at `a` through a memory descriptor (R111, R264, R266): `t` is
the state at the store (PC already past the instruction, flags already written) and `post` what the body does after
it. Four cases that exclude each other and leave nothing out: an ordinary address; 0xFF0F without dispatch; interrupt
entry; the fatal combination, of which only CRASH and PC are stated (93_implementation_defined.md U4). -/
def StoreAnswers (i : Instr) (s t : State) (a : Word) (v : Byte) (post : State → State) : Prop :=
  (a ≠ 0xFF0F → exec i s = .next (post { t with mem := Memory.write t.mem a.toNat v })) ∧
  (a = 0xFF0F → ¬ dispatchable t v → exec i s = .next (post { t with mem := Memory.write t.mem 0xFF0F v })) ∧
  (∀ vector, a = 0xFF0F → dispatchable t v → (v, vector) ∈ vectorTable →
    exec i s = .next (post (entered t vector))) ∧
  (a = 0xFF0F → dispatchable t v → (∀ p ∈ vectorTable, p.1 ≠ v) →
    ∃ u, exec i s = .next u ∧ u.crash = some ⟨.badInterruptCombination, i.opcode, s.icount⟩ ∧ u.pc = t.pc)

/-- The thirteen unset entries of the primary table (R88). -/
def unsetInstrs : List Instr :=
  [.stop, .halt, .illegal_D3, .illegal_DB, .illegal_DD, .illegal_E3, .illegal_E4, .illegal_EB, .illegal_EC,
    .illegal_ED, .illegal_F4, .illegal_FC, .illegal_FD]

/-- The result and the carry of a rotate or shift of `v` with carry-in `c` (R205 to R212). -/
def rotated (op : RotOp) (v : Byte) (c : Bool) : Byte × Bool :=
  match op with
  | .rlc => (v.rotateLeft 1, v.getLsbD 7)
  | .rrc => (v.rotateRight 1, v.getLsbD 0)
  | .rl => ((v <<< 1) ||| (if c then 0x01 else 0), v.getLsbD 7)
  | .rr => ((v >>> 1) ||| (if c then 0x80 else 0), v.getLsbD 0)
  | .sla => (v <<< 1, v.getLsbD 7)
  | .sra => (v.sshiftRight 1, v.getLsbD 0)
  | .swap => (v.rotateLeft 4, false)
  | .srl => (v >>> 1, v.getLsbD 0)

/-- `v` with bit `b` cleared, the other bits kept (R221). -/
def bitCleared (v : Byte) (b : Nat) : Byte := BitVec.ofNat 8 (if v.getLsbD b then v.toNat - 2 ^ b else v.toNat)

/-- `v` with bit `b` set, the other bits kept (R222). -/
def bitSet (v : Byte) (b : Nat) : Byte := BitVec.ofNat 8 (if v.getLsbD b then v.toNat else v.toNat + 2 ^ b)

/-- Whether an instruction is in the table of flag writers of R26, read from its encoding. -/
def writesFlags (i : Instr) : Bool :=
  match encode i with
  | [] => false
  | op :: rest =>
    if op = 0xCB then
      match rest with
      | [] => true
      | ext :: _ => fieldX ext == 0 || fieldX ext == 1
    else
      fieldX op == 2 ||
      (fieldX op == 0 && (fieldZ op == 4 || fieldZ op == 5 || fieldZ op == 7)) ||
      (fieldX op == 0 && fieldZ op == 1 && fieldY op % 2 == 1) ||
      (fieldX op == 3 && fieldZ op == 6) ||
      op == 0xE8 || op == 0xF8 || op == 0xF1

/-- The bytes an 8-bit store through a memory descriptor at `a` can change: `a`; at 0xFF0F also the two stack bytes of
interrupt entry (R56, R266). -/
def hookedBytes (s : State) (a : Word) : List Word :=
  if a = 0xFF0F then [a, s.sp - 1, s.sp - 2] else [a]

/-- The addresses a well-formed instruction may store to, computed as the rules compute them. -/
def storedBytes (i : Instr) (s : State) : List Word :=
  match i with
  | .ld_indBC_A => hookedBytes s s.bc
  | .ld_indDE_A => hookedBytes s s.de
  | .ld_indA16_A a16 => hookedBytes s a16
  | .ldh_indA8_A a8 => hookedBytes s (0xFF00 + a8.setWidth 16)
  | .ld_indC_A => hookedBytes s (0xFF00 + (loByte s.bc).setWidth 16)
  | .ldi_indHL_A => hookedBytes s s.hl
  | .ldd_indHL_A => hookedBytes s s.hl
  | .ld_indHL_B => hookedBytes s s.hl
  | .ld_indHL_C => hookedBytes s s.hl
  | .ld_indHL_D => hookedBytes s s.hl
  | .ld_indHL_E => hookedBytes s s.hl
  | .ld_indHL_H => hookedBytes s s.hl
  | .ld_indHL_L => hookedBytes s s.hl
  | .ld_indHL_A => hookedBytes s s.hl
  | .ld_indHL_d8 _ => hookedBytes s s.hl
  | .inc_indHL => hookedBytes s s.hl
  | .dec_indHL => hookedBytes s s.hl
  | .rlc_indHL => hookedBytes s s.hl
  | .rrc_indHL => hookedBytes s s.hl
  | .rl_indHL => hookedBytes s s.hl
  | .rr_indHL => hookedBytes s s.hl
  | .sla_indHL => hookedBytes s s.hl
  | .sra_indHL => hookedBytes s s.hl
  | .swap_indHL => hookedBytes s s.hl
  | .srl_indHL => hookedBytes s s.hl
  | .res_0_indHL => hookedBytes s s.hl
  | .res_1_indHL => hookedBytes s s.hl
  | .res_2_indHL => hookedBytes s s.hl
  | .res_3_indHL => hookedBytes s s.hl
  | .res_4_indHL => hookedBytes s s.hl
  | .res_5_indHL => hookedBytes s s.hl
  | .res_6_indHL => hookedBytes s s.hl
  | .res_7_indHL => hookedBytes s s.hl
  | .set_0_indHL => hookedBytes s s.hl
  | .set_1_indHL => hookedBytes s s.hl
  | .set_2_indHL => hookedBytes s s.hl
  | .set_3_indHL => hookedBytes s s.hl
  | .set_4_indHL => hookedBytes s s.hl
  | .set_5_indHL => hookedBytes s s.hl
  | .set_6_indHL => hookedBytes s s.hl
  | .set_7_indHL => hookedBytes s s.hl
  | .ld_indA16_SP a16 => [a16, a16 + 1]
  | .push_BC => [s.sp - 1, s.sp - 2]
  | .push_DE => [s.sp - 1, s.sp - 2]
  | .push_HL => [s.sp - 1, s.sp - 2]
  | .push_AF => [s.sp - 1, s.sp - 2]
  | .call_a16 _ => [s.sp - 1, s.sp - 2]
  | .call_NZ_a16 _ => if condition s .nz then [s.sp - 1, s.sp - 2] else []
  | .call_Z_a16 _ => if condition s .z then [s.sp - 1, s.sp - 2] else []
  | .call_NC_a16 _ => if condition s .nc then [s.sp - 1, s.sp - 2] else []
  | .call_C_a16 _ => if condition s .c then [s.sp - 1, s.sp - 2] else []
  | .rst_00 => [s.sp - 1, s.sp - 2]
  | .rst_08 => [s.sp - 1, s.sp - 2]
  | .rst_10 => [s.sp - 1, s.sp - 2]
  | .rst_18 => [s.sp - 1, s.sp - 2]
  | .rst_20 => [s.sp - 1, s.sp - 2]
  | .rst_28 => [s.sp - 1, s.sp - 2]
  | .rst_30 => [s.sp - 1, s.sp - 2]
  | .rst_38 => [s.sp - 1, s.sp - 2]
  | _ => []

/-- The three bytes from PC on, addresses mod 65536: the longest instruction (R80). -/
def windowAt (s : State) : List Byte := [s.readByte s.pc, s.readByte (s.pc + 1), s.readByte (s.pc + 2)]

/-- Where a state that is not Crashed holds `i` at PC, its step ends in the stalled-PC crash (R263): the effects of the
instruction, which are those of `u`, and the serial step have happened. -/
def Stalls (i : Instr) (s u : State) : Prop :=
  ∀ rest : List Byte, s.crash = none → decode (windowAt s) = .ok (i, rest) →
    step s = .next { u.serialStep with crash := some ⟨.stalledPC, i.opcode, s.icount⟩ }

end Sys2Proof.Claims

open Sys2Proof.Claims

/-! ### Encoding -/

/-- Words written out from the spec's encodings decode to the instruction they stand for, one or more of each family
(R81, R83, R84, R86). -/
def Obligations.WrittenWordsDecode : Prop :=
  decode [0x41] = .ok (.ld_B_C, []) ∧
  decode [0xEA, 0x0F, 0xFF] = .ok (.ld_indA16_A 0xFF0F, []) ∧
  decode [0x21, 0x34, 0x12] = .ok (.ld_HL_d16 0x1234, []) ∧
  decode [0x9E] = .ok (.sbc_A_indHL, []) ∧
  decode [0xFE, 0x40] = .ok (.cp_d8 0x40, []) ∧
  decode [0xE8, 0xFF] = .ok (.add_SP_e8 0xFF, []) ∧
  decode [0x17] = .ok (.rla, []) ∧
  decode [0xCB, 0x37] = .ok (.swap_A, []) ∧
  decode [0xCB, 0x7C] = .ok (.bit_7_H, []) ∧
  decode [0xCB, 0xBE] = .ok (.res_7_indHL, []) ∧
  decode [0xDC, 0x00, 0x03] = .ok (.call_C_a16 0x0300, []) ∧
  decode [0xEF] = .ok (.rst_28, []) ∧
  decode [0x76] = .ok (.halt, [])

/-- Decoding the bytes of any well-formed instruction, whatever follows them, gives it back with every operand. -/
def Obligations.DecodeEncodeRoundTrip : Prop :=
  ∀ (i : Instr) (rest : List Byte), i.wf = true → decode (encode i ++ rest) = .ok (i, rest)

/-- Any three bytes begin with the encoding of the well-formed instruction the decoder reads from them: every byte string
long enough holds exactly one instruction, and no bit of it is dropped (R80, R88, R89). -/
def Obligations.EveryWindowEncodesItsInstruction : Prop :=
  ∀ b0 b1 b2 : Byte, (decodeWindow b0 b1 b2).wf = true ∧
    ∃ rest, [b0, b1, b2] = encode (decodeWindow b0 b1 b2) ++ rest

/-- The extended opcode byte by its fields: group, `y`, `z` (R83). The extended table as the encoder holds it, against the
fields; all 256 entries hold an instruction that is not unset. -/
def Obligations.ExtendedOpcodesFollowTheirFields : Prop :=
  (∀ (op : RotOp) (r : R8), encode (Instr.rot op r) = [0xCB, opByte (8 * rotIndex op + r8Index r)]) ∧
  (∀ (b : Idx3) (r : R8), encode (Instr.bit b r) = [0xCB, opByte (0x40 + 8 * b.toNat + r8Index r)]) ∧
  (∀ (b : Idx3) (r : R8), encode (Instr.res b r) = [0xCB, opByte (0x80 + 8 * b.toNat + r8Index r)]) ∧
  (∀ (b : Idx3) (r : R8), encode (Instr.set b r) = [0xCB, opByte (0xC0 + 8 * b.toNat + r8Index r)]) ∧
  (∀ op : Byte, encode (extendedInstr op) = [0xCB, op] ∧ extendedInstr op ∉ unsetInstrs)

/-! ### The step machine -/

/-- The step at a state that is not Crashed runs the instruction its bytes decode to, and then: nothing more if the body
crashed; else the serial step, the liveness check, and the instruction count (R115). -/
def Obligations.StepRunsDecodedInstruction : Prop :=
  ∀ (s t : State) (i : Instr) (rest : List Byte),
    s.crash = none → decode (windowAt s) = .ok (i, rest) → exec i s = .next t →
    (t.crash ≠ none → step s = .next t) ∧
    (t.crash = none → t.serialStep.pc = s.pc →
      step s = .next { t.serialStep with crash := some ⟨.stalledPC, i.opcode, t.icount⟩ }) ∧
    (t.crash = none → t.serialStep.pc ≠ s.pc → step s = .next { t.serialStep with icount := t.icount + 1 })

/-- A step in the Crashed state changes nothing at all (R118). -/
def Obligations.CrashedStepIsIdentity : Prop :=
  ∀ s : State, s.crash ≠ none → step s = .next s

/-- The step function is total: every state has a next state, and so has every instruction in every state. The three fatal
conditions are states, not stops (R115, R118, R260). -/
def Obligations.StepAlwaysAnswersNext : Prop :=
  (∀ s : State, ∃ t, step s = .next t) ∧ (∀ (i : Instr) (s : State), ∃ t, exec i s = .next t)

/-- From a state that is not Crashed, a step either completes, counts one and leaves PC at another address, or crashes and
counts nothing, with the byte that indexed the table and the count recorded (R41, R42, R260, R263). -/
def Obligations.StepCountsOrRecordsTheCrash : Prop :=
  ∀ s t : State, s.crash = none → step s = .next t →
    (t.crash = none → t.icount = s.icount + 1 ∧ t.pc ≠ s.pc) ∧
    (∀ r : CrashRecord, t.crash = some r →
      r.icount = s.icount ∧ t.icount = s.icount ∧
      r.opcode = (if s.readByte s.pc = 0xCB then s.readByte (s.pc + 1) else s.readByte s.pc))

/-- A step that crashes leaves PC where the cause says: at the opcode's address for an unknown opcode and for a stalled PC
(R119, R260, R263), at the address of the next sequential instruction for a bad combination (R264). -/
def Obligations.CrashLeavesPcWhereTheCauseSays : Prop :=
  ∀ (s t : State) (r : CrashRecord), s.crash = none → step s = .next t → t.crash = some r →
    (r.cause = .unknownOpcode → t.pc = s.pc) ∧
    (r.cause = .stalledPC → t.pc = s.pc) ∧
    (r.cause = .badInterruptCombination → t.pc = s.pc + BitVec.ofNat 16 (decodeWindow (s.readByte s.pc)
      (s.readByte (s.pc + 1)) (s.readByte (s.pc + 2))).size)

/-! ### Fatal conditions -/

/-- Each of the thirteen unset opcodes takes the unknown-opcode crash: CRASH is set with its opcode byte and the count, and
nothing else changes, PC included (R253, R254, R255, R262). -/
def Obligations.UnsetOpcodesCrash : Prop :=
  (∀ i ∈ unsetInstrs, ∀ s : State,
    exec i s = .next { s with crash := some ⟨.unknownOpcode, i.opcode, s.icount⟩ }) ∧
  unsetInstrs.map encode =
    [[0x10], [0x76], [0xD3], [0xDB], [0xDD], [0xE3], [0xE4], [0xEB], [0xEC], [0xED], [0xF4], [0xFC], [0xFD]]

/-- Fetching one of the thirteen unset bytes, and nothing else, ends the step in the unknown-opcode crash with nothing else
changed (R88, R262). -/
def Obligations.UnknownOpcodeExactlyForUnsetBytes : Prop :=
  ∀ s : State, s.crash = none →
    let unset : List Byte :=
      [0x10, 0x76, 0xD3, 0xDB, 0xDD, 0xE3, 0xE4, 0xEB, 0xEC, 0xED, 0xF4, 0xFC, 0xFD]
    (s.readByte s.pc ∈ unset →
      step s = .next { s with crash := some ⟨.unknownOpcode, s.readByte s.pc, s.icount⟩ }) ∧
    (s.readByte s.pc ∉ unset →
      ∀ t r, step s = .next t → t.crash = some r → r.cause ≠ .unknownOpcode)

/-- Every taken control transfer to its own address is the stalled-program-counter crash, after the rest of its effect (a
pushed or popped return address, `RETI`'s IME) and the serial step; a condition that fails never stalls (R242, R263).
The only offset of `JR` that reaches its own address is 0xFE (R234, R235). -/
def Obligations.TransferToItselfStalls : Prop :=
  ∀ s : State,
    let returned := { s with sp := s.sp + 2 }
    Stalls (.jp_a16 s.pc) s s ∧
    (s.hl = s.pc → Stalls .jp_HL s s) ∧
    Stalls (.jr_e8 0xFE) s s ∧
    Stalls (.call_a16 s.pc) s (pushed s (s.pc + 3)) ∧
    (∀ k : Idx3, BitVec.ofNat 16 (8 * k.toNat) = s.pc → Stalls (Instr.rst k) s (pushed s (s.pc + 1))) ∧
    (stackTop s = s.pc → Stalls .ret s returned ∧ Stalls .reti s { returned with ime := true }) ∧
    (∀ cc : Cond, condition s cc = true →
      Stalls (Instr.jpCond cc s.pc) s s ∧ Stalls (Instr.jrCond cc 0xFE) s s ∧
      Stalls (Instr.callCond cc s.pc) s (pushed s (s.pc + 3)) ∧
      (stackTop s = s.pc → Stalls (Instr.retCond cc) s returned)) ∧
    (∀ (cc : Cond) (a16 : Word) (e8 : Byte) (i : Instr) (rest : List Byte),
      i ∈ [Instr.jpCond cc a16, Instr.jrCond cc e8, Instr.callCond cc a16, Instr.retCond cc] →
      condition s cc = false → s.crash = none → decode (windowAt s) = .ok (i, rest) →
      ∃ t, step s = .next t ∧ t.crash = none)

/-! ### Interrupt entry and the serial link -/

/-- The hook of a store of `v` to 0xFF0F, in its three cases: the plain store, interrupt entry with what it saves and where
it goes, and the fatal combination with PC not assigned (R264, R265, R266, R268). -/
def Obligations.InterruptHook : Prop :=
  ∀ (s : State) (v : Byte),
    (¬ dispatchable s v → s.write8 (.mem 0xFF0F) v = .done { s with mem := Memory.write s.mem 0xFF0F v }) ∧
    (∀ vector, dispatchable s v → (v, vector) ∈ vectorTable →
      s.write8 (.mem 0xFF0F) v = .done (entered s vector)) ∧
    (dispatchable s v → (∀ p ∈ vectorTable, p.1 ≠ v) →
      ∃ u, s.write8 (.mem 0xFF0F) v = .raise .badInterruptCombination u ∧ u.pc = s.pc)

/-- The serial step: nothing unless SC holds 0x81; then SC becomes 0x01 and SB is appended, with the marker set exactly for
a newline, unless the buffer is full (R281, R282). -/
def Obligations.SerialStepSendsOneByte : Prop :=
  ∀ s : State,
    let sent := Memory.write s.mem 0xFF02 0x01
    (s.readByte 0xFF02 ≠ 0x81 → s.serialStep = s) ∧
    (s.readByte 0xFF02 = 0x81 → s.serial.length ≥ s.serialCapacity - 1 → s.serialStep = { s with mem := sent }) ∧
    (s.readByte 0xFF02 = 0x81 → s.serial.length < s.serialCapacity - 1 →
      s.serialStep = { s with
        mem := sent
        serial := s.serial ++ [s.readByte 0xFF01]
        serialEol := decide (s.readByte 0xFF01 = 0x0A) })

/-! ### Invariants of every step -/

/-- Every step keeps memory in its canonical form, from every state that has it. -/
def Obligations.StepKeepsMemoryCanonical : Prop :=
  ∀ s t : State, Memory.wf s.mem = true → step s = .next t → Memory.wf t.mem = true

/-- Every step keeps the low four bits of F at 0, from every state where they are 0 (R24). -/
def Obligations.StepKeepsFlagsPadded : Prop :=
  ∀ s t : State, s.af &&& 0x000F = 0 → step s = .next t → t.af &&& 0x000F = 0

/-- Every step keeps the serial buffer within its capacity minus one, and the end-of-line marker true exactly when the most
recently pushed byte is a newline (R43, R282). -/
def Obligations.StepKeepsSerialConsistent : Prop :=
  ∀ s t : State, s.serialConsistent = true → step s = .next t → t.serialConsistent = true

/-- The state after reset, the power-on state and every launch state meet the three invariants. -/
def Obligations.LaunchStatesMeetTheInvariants : Prop :=
  State.Inv State.reset ∧ ∀ (capacity : Nat) (image : List Byte),
    State.Inv (State.powerOn capacity) ∧ State.Inv (State.launch capacity image)

/-- No step writes the capacity, clears the serial buffer or sends more than one byte: the buffer is append-only for the
program (R43, R281, R283). The capacity as a field of State is the model's choice (notes/assumptions/1.md). -/
def Obligations.StepAppendsAtMostOneByte : Prop :=
  ∀ s t : State, step s = .next t →
    t.serialCapacity = s.serialCapacity ∧
    ((t.serial = s.serial ∧ t.serialEol = s.serialEol) ∨
      ∃ b : Byte, t.serial = s.serial ++ [b] ∧ t.serialEol = decide (b = 0x0A) ∧ t.readByte 0xFF02 = 0x01)

/-! ### Rules over all instructions -/

/-- IME is set by `EI` and `RETI` only. It is cleared by `DI` only, or by an instruction whose stored bytes are those of one
descriptor store to 0xFF0F, in one of two ways: interrupt entry of an enabled value (PC at that value's vector, the
address of the next instruction on the stack), or the fatal combination. A plain store to 0xFF0F (a push, `LD (a16),SP`)
is neither (R27, R56, R264 to R267). -/
def Obligations.ImeChangesOnlyByItsWriters : Prop :=
  ∀ (i : Instr) (s t : State), i.wf = true → exec i s = .next t →
    (s.ime = false → t.ime = true → i = .ei ∨ i = .reti) ∧
    (s.ime = true → t.ime = false →
      i = .di ∨
      (storedBytes i s = [0xFF0F, s.sp - 1, s.sp - 2] ∧
        ((∃ v : Byte, dispatchable s v ∧ (v, t.pc) ∈ vectorTable ∧ t.sp = s.sp - 2 ∧
            stackTop t = s.pc + BitVec.ofNat 16 i.size) ∨
          t.crash = some ⟨.badInterruptCombination, i.opcode, s.icount⟩)))

/-- Every instruction that R26 does not list leaves F unchanged. -/
def Obligations.UnlistedInstructionsLeaveFlags : Prop :=
  ∀ (i : Instr) (s t : State), exec i s = .next t → writesFlags i = false → loByte t.af = loByte s.af

/-- The memory frame of every well-formed instruction: every byte outside the addresses it stores to, computed as its rule
computes them, reads as before; a form that stores nothing leaves every byte. -/
def Obligations.MemoryFrame : Prop :=
  ∀ (i : Instr) (s t : State) (a : Word), i.wf = true → exec i s = .next t → a ∉ storedBytes i s →
    t.readByte a = s.readByte a

/-- No instruction body writes ICOUNT, the serial buffer, its marker or its capacity, and CRASH only changes to a record of
this instruction and this count (R41 to R43, R115). -/
def Obligations.ExecSystemFrame : Prop :=
  ∀ (i : Instr) (s t : State), i.wf = true → exec i s = .next t →
    t.icount = s.icount ∧ t.serial = s.serial ∧ t.serialEol = s.serialEol ∧ t.serialCapacity = s.serialCapacity ∧
    (t.crash = s.crash ∨ ∃ cause, t.crash = some ⟨cause, i.opcode, s.icount⟩)

/-- No instruction can read ICOUNT, the serial buffer or its capacity: changing them changes nothing else of what an
instruction that does not crash answers (R42, R43). -/
def Obligations.ExecCannotReadHostState : Prop :=
  ∀ (i : Instr) (s t : State) (n : Nat) (q : List Byte) (e : Bool) (k : Nat),
    s.crash = none → exec i s = .next t → t.crash = none →
    exec i { s with icount := n, serial := q, serialEol := e, serialCapacity := k } =
      .next { t with icount := n, serial := q, serialEol := e, serialCapacity := k }

/-! ### Reset and launch -/

/-- `Reset()` writes the six registers and IME and nothing else; the state after reset is that of a machine just powered
on (R300, R301, R302). -/
def Obligations.ResetValues : Prop :=
  (∀ s : State, s.hostReset = { s with
    af := 0x01B0, bc := 0x0013, de := 0x00D8, hl := 0x014D, sp := 0xFFFE, pc := 0x0100, ime := false }) ∧
  State.reset = (State.powerOn State.reset.serialCapacity).hostReset ∧
  (∀ a : Word, State.reset.readByte a = 0) ∧
  State.reset.crash = none ∧ State.reset.icount = 0 ∧ State.reset.serial = [] ∧ State.reset.serialEol = false

/-- `Load(IMAGE)` puts byte `i` of the image, for `i` below its length and below 65,536, at address `i` and leaves every
other byte and all other state (R305). -/
def Obligations.LoadCopiesTheImage : Prop :=
  ∀ (s : State) (image : List Byte) (a : Word),
    (∀ b, image[a.toNat]? = some b → (s.load image).readByte a = b) ∧
    (image.length ≤ a.toNat → (s.load image).readByte a = s.readByte a) ∧
    s.load image = { s with mem := (s.load image).mem }

/-! ### Memory, registers, flags, the stack -/

/-- A byte store changes the byte at its address and no other (R52, R53); a word is stored low byte at the lower address,
the next address taken mod 65536, and read back the same way (R54). -/
def Obligations.StoresAreReadBack : Prop :=
  (∀ (s : State) (a b : Word) (v : Byte), (s.storeByte a v).readByte b = if b = a then v else s.readByte b) ∧
  (∀ (s : State) (a : Word) (v : Word), (s.storeWord a v).readByte a = loByte v ∧
    (s.storeWord a v).readByte (a + 1) = hiByte v ∧ (s.storeWord a v).readWord a = v)

/-- The canonical form: a store keeps it, and two canonical memories that read alike are equal. -/
def Obligations.CanonicalMemoriesAreExtensional : Prop :=
  (∀ (m : Memory) (a : Word) (v : Byte), Memory.wf m = true → Memory.wf (Memory.write m a.toNat v) = true) ∧
  (∀ m m' : Memory, Memory.wf m = true → Memory.wf m' = true →
    (∀ a : Word, Memory.read m a.toNat = Memory.read m' a.toNat) → m = m')

/-- Halves alias their pair: a half written is read back (F with its low four bits cleared), every other half stays, and a
pair is its high half and its low half (R22, R24). -/
def Obligations.HalvesAliasTheirPairs : Prop :=
  (∀ (s : State) (n m : Reg8) (v : Byte), (s.setReg8 n v).reg8 m =
    if m = n then (if n = .f then v &&& 0xF0 else v) else s.reg8 m) ∧
  (∀ s : State, s.reg16 .af = wordOf (s.reg8 .a) (s.reg8 .f) ∧ s.reg16 .bc = wordOf (s.reg8 .b) (s.reg8 .c) ∧
    s.reg16 .de = wordOf (s.reg8 .d) (s.reg8 .e) ∧ s.reg16 .hl = wordOf (s.reg8 .h) (s.reg8 .l)) ∧
  (∀ (s : State) (n : Reg16) (v : Word), (s.setReg16 n v).reg16 n = if n = .af then v &&& 0xFFF0 else v)

/-- The flags view of F: bit 7 zero, bit 6 subtract, bit 5 half-carry, bit 4 carry; a write of the flags leaves A and makes
the low four bits 0 (R24). -/
def Obligations.FlagsViewOfF : Prop :=
  ∀ (s : State) (z n h c : Bool),
    (s.setFlags z n h c).fZ = z ∧ (s.setFlags z n h c).fN = n ∧ (s.setFlags z n h c).fH = h ∧
    (s.setFlags z n h c).fC = c ∧ (s.setFlags z n h c).reg8 .a = s.reg8 .a ∧
    (s.setFlags z n h c).af &&& 0x000F = 0 ∧
    s.fZ = (s.reg8 .f).getLsbD 7 ∧ s.fN = (s.reg8 .f).getLsbD 6 ∧ s.fH = (s.reg8 .f).getLsbD 5 ∧
    s.fC = (s.reg8 .f).getLsbD 4

/-- The stack primitives: a push stores plainly one below SP, a pop reads at SP, a word goes high byte first and comes back
low byte first, and push then pop gives the value back and restores SP (R135 to R138). -/
def Obligations.PushThenPopRestores : Prop :=
  ∀ s : State,
    (∀ v : Byte, s.push8 v = { s with sp := s.sp - 1, mem := Memory.write s.mem (s.sp - 1).toNat v } ∧
      (s.push8 v).pop8.1 = v ∧ (s.push8 v).pop8.2.sp = s.sp) ∧
    (s.pop8.1 = s.readByte s.sp ∧ s.pop8.2 = { s with sp := s.sp + 1 }) ∧
    (∀ w : Word, s.push16 w = pushed s w ∧ (s.push16 w).readByte (s.push16 w).sp = loByte w ∧
      (s.push16 w).readByte ((s.push16 w).sp + 1) = hiByte w ∧
      (s.push16 w).pop16.1 = w ∧ (s.push16 w).pop16.2.sp = s.sp) ∧
    (s.pop16.1 = stackTop s ∧ s.pop16.2 = { s with sp := s.sp + 2 })

/-! ### The ALU primitives -/

/-- `add8` and `sub8` as integers: the result mod 256, zero, subtract, half-carry out of bit 3, carry out of bit 7, and
addition symmetric in its operands (R125, R126). -/
def Obligations.ByteArithmetic : Prop :=
  ∀ (a b : Byte) (cin : Bool),
    ((add8 a b cin).r.toNat : Int) = ((a.toNat : Int) + b.toNat + cin.toNat) % 256 ∧
    ((add8 a b cin).z = true ↔ (a.toNat + b.toNat + cin.toNat) % 256 = 0) ∧ (add8 a b cin).n = false ∧
    ((add8 a b cin).h = true ↔ a.toNat % 16 + b.toNat % 16 + cin.toNat > 0xF) ∧
    ((add8 a b cin).c = true ↔ a.toNat + b.toNat + cin.toNat > 0xFF) ∧
    add8 a b cin = add8 b a cin ∧
    ((sub8 a b cin).r.toNat : Int) = ((a.toNat : Int) - b.toNat - cin.toNat) % 256 ∧
    ((sub8 a b cin).z = true ↔ ((a.toNat : Int) - b.toNat - cin.toNat) % 256 = 0) ∧ (sub8 a b cin).n = true ∧
    ((sub8 a b cin).h = true ↔ a.toNat % 16 < b.toNat % 16 + cin.toNat) ∧
    ((sub8 a b cin).c = true ↔ a.toNat < b.toNat + cin.toNat)

/-- `add16` composes two byte additions to the sum mod 65536, with half-carry out of bit 11 and carry out of bit 15
(R127). -/
def Obligations.WordAddition : Prop :=
  ∀ x y : Word, (add16 x y).r = x + y ∧
    ((add16 x y).h = true ↔ x.toNat % 4096 + y.toNat % 4096 > 0xFFF) ∧
    ((add16 x y).c = true ↔ x.toNat + y.toNat > 0xFFFF)

/-- `addrel16` is signed addition of the byte to the base, mod 65536, with the flags of the unsigned addition to the low
byte (R128). -/
def Obligations.RelativeAddition : Prop :=
  ∀ (base : Word) (e : Byte), (addrel16 base e).r = base + e.signExtend 16 ∧
    ((addrel16 base e).h = true ↔ base.toNat % 16 + e.toNat % 16 > 0xF) ∧
    ((addrel16 base e).c = true ↔ base.toNat % 256 + e.toNat > 0xFF)

/-! ### 8-bit loads -/

/-- `LD r,r'`, 49 instructions: `x[r] <- x[r']`, the sibling half and F untouched (R140). -/
def Obligations.LoadRegisterFromRegister : Prop :=
  ∀ (r r' : R8) (n n' : Reg8) (s : State), r8Reg r = some n → r8Reg r' = some n' →
    encode (Instr.ld8 r r') = [opByte (0x40 + 8 * r8Index r + r8Index r')] ∧
    exec (Instr.ld8 r r') s = .next { s.setReg8 n (r8Value s r') with pc := s.pc + 1 }

/-- `LD r,d8` and `LD r,(HL)`, 14 instructions; the byte at HL is read with HL as it was before the instruction (R141,
R142). -/
def Obligations.LoadRegisterFromImmediateOrMemory : Prop :=
  ∀ (r : R8) (n : Reg8) (s : State), r8Reg r = some n →
    (∀ d8 : Byte, encode (Instr.ldImm8 r d8) = [opByte (0x06 + 8 * r8Index r), d8] ∧
      exec (Instr.ldImm8 r d8) s = .next { s.setReg8 n d8 with pc := s.pc + 2 }) ∧
    encode (Instr.ld8 r .indHL) = [opByte (0x46 + 8 * r8Index r)] ∧
    exec (Instr.ld8 r .indHL) s = .next { s.setReg8 n (s.readByte s.hl) with pc := s.pc + 1 }

/-- The loads of A through BC, DE, an absolute pointer, the zero page and C, and the two that step HL (R145, R146, R149,
R151, R153, R156, R158). -/
def Obligations.LoadAccumulatorFromMemory : Prop :=
  ∀ s : State,
    (encode .ld_A_indBC = [0x0A] ∧
      exec .ld_A_indBC s = .next { s with af := wordOf (s.readByte s.bc) (loByte s.af), pc := s.pc + 1 }) ∧
    (encode .ld_A_indDE = [0x1A] ∧
      exec .ld_A_indDE s = .next { s with af := wordOf (s.readByte s.de) (loByte s.af), pc := s.pc + 1 }) ∧
    (∀ a16 : Word, encode (.ld_A_indA16 a16) = [0xFA, loByte a16, hiByte a16] ∧
      exec (.ld_A_indA16 a16) s = .next { s with af := wordOf (s.readByte a16) (loByte s.af), pc := s.pc + 3 }) ∧
    (∀ a8 : Byte, encode (.ldh_A_indA8 a8) = [0xF0, a8] ∧
      exec (.ldh_A_indA8 a8) s =
        .next { s with af := wordOf (s.readByte (0xFF00 + a8.setWidth 16)) (loByte s.af), pc := s.pc + 2 }) ∧
    (encode .ld_A_indC = [0xF2] ∧
      exec .ld_A_indC s = .next { s with
        af := wordOf (s.readByte (0xFF00 + (loByte s.bc).setWidth 16)) (loByte s.af), pc := s.pc + 1 }) ∧
    (encode .ldi_A_indHL = [0x2A] ∧
      exec .ldi_A_indHL s =
        .next { s with af := wordOf (s.readByte s.hl) (loByte s.af), hl := s.hl + 1, pc := s.pc + 1 }) ∧
    (encode .ldd_A_indHL = [0x3A] ∧
      exec .ldd_A_indHL s =
        .next { s with af := wordOf (s.readByte s.hl) (loByte s.af), hl := s.hl - 1, pc := s.pc + 1 })

/-- The 8-bit stores of `LD (HL),r` (7 instructions), `LD (HL),d8`, `LD (BC),A`, `LD (DE),A`, `LD (a16),A`, `LDH (a8),A` and
`LD (C),A`, at every address, 0xFF0F included (R143, R144, R147, R148, R150, R152, R154). -/
def Obligations.StoreByteInstructions : Prop :=
  ∀ s : State,
    let at1 := { s with pc := s.pc + 1 }
    let at2 := { s with pc := s.pc + 2 }
    let at3 := { s with pc := s.pc + 3 }
    let a := hiByte s.af
    (∀ (r : R8) (n : Reg8), r8Reg r = some n → encode (Instr.ld8 .indHL r) = [opByte (0x70 + r8Index r)] ∧
      StoreAnswers (Instr.ld8 .indHL r) s at1 s.hl (r8Value s r) id) ∧
    (∀ d8 : Byte, encode (.ld_indHL_d8 d8) = [0x36, d8] ∧ StoreAnswers (.ld_indHL_d8 d8) s at2 s.hl d8 id) ∧
    (encode .ld_indBC_A = [0x02] ∧ StoreAnswers .ld_indBC_A s at1 s.bc a id) ∧
    (encode .ld_indDE_A = [0x12] ∧ StoreAnswers .ld_indDE_A s at1 s.de a id) ∧
    (∀ a16 : Word, encode (.ld_indA16_A a16) = [0xEA, loByte a16, hiByte a16] ∧
      StoreAnswers (.ld_indA16_A a16) s at3 a16 a id) ∧
    (∀ a8 : Byte, encode (.ldh_indA8_A a8) = [0xE0, a8] ∧
      StoreAnswers (.ldh_indA8_A a8) s at2 (0xFF00 + a8.setWidth 16) a id) ∧
    (encode .ld_indC_A = [0xE2] ∧
      StoreAnswers .ld_indC_A s at1 (0xFF00 + (loByte s.bc).setWidth 16) a id)

/-- `LDI (HL),A` and `LDD (HL),A`: the store at the old HL, then HL one higher or lower, also after an interrupt entry (R155,
R157, R269). -/
def Obligations.StoreByteAndStepPointer : Prop :=
  ∀ s : State,
    let at1 := { s with pc := s.pc + 1 }
    (encode .ldi_indHL_A = [0x22] ∧
      StoreAnswers .ldi_indHL_A s at1 s.hl (hiByte s.af) fun t => { t with hl := s.hl + 1 }) ∧
    (encode .ldd_indHL_A = [0x32] ∧
      StoreAnswers .ldd_indHL_A s at1 s.hl (hiByte s.af) fun t => { t with hl := s.hl - 1 })

/-! ### 16-bit loads and the stack -/

/-- `LD rr,d16` (4 instructions), `LD SP,HL`, and `LD (a16),SP` with two plain stores that never run the hook (R160, R161,
R162). -/
def Obligations.LoadWords : Prop :=
  ∀ s : State,
    (∀ (p : Rp) (d16 : Word), encode (Instr.ldImm16 p d16) =
        [opByte (0x01 + 16 * (rpIndex p).1), loByte d16, hiByte d16] ∧
      exec (Instr.ldImm16 p d16) s = .next { s.setReg16 (rpIndex p).2 d16 with pc := s.pc + 3 }) ∧
    (∀ a16 : Word, encode (.ld_indA16_SP a16) = [0x08, loByte a16, hiByte a16] ∧
      exec (.ld_indA16_SP a16) s = .next { s with
        mem := Memory.write (Memory.write s.mem a16.toNat (loByte s.sp)) (a16 + 1).toNat (hiByte s.sp)
        pc := s.pc + 3 }) ∧
    (encode .ld_SP_HL = [0xF9] ∧ exec .ld_SP_HL s = .next { s with sp := s.hl, pc := s.pc + 1 })

/-- `LD HL,SP+e8` and `ADD SP,e8`: signed addition of the byte to SP, Z and N 0, H and C those of the unsigned addition to
SP's low byte (R163, R193). -/
def Obligations.StackPointerOffsets : Prop :=
  ∀ (s : State) (e8 : Byte),
    let sum := s.sp + e8.signExtend 16
    let f := flagByte false false (decide (s.sp.toNat % 16 + e8.toNat % 16 > 0xF))
      (decide (s.sp.toNat % 256 + e8.toNat > 0xFF))
    (encode (.ld_HL_SP_e8 e8) = [0xF8, e8] ∧ exec (.ld_HL_SP_e8 e8) s =
      .next { s with hl := sum, af := wordOf (hiByte s.af) f, pc := s.pc + 2 }) ∧
    (encode (.add_SP_e8 e8) = [0xE8, e8] ∧ exec (.add_SP_e8 e8) s =
      .next { s with sp := sum, af := wordOf (hiByte s.af) f, pc := s.pc + 2 })

/-- `PUSH rr` (4 instructions): high half at SP - 1, low half at SP - 2, plain stores; `POP rr` (4 instructions): low half
from SP, high half from SP + 1; `POP AF` masks the low four bits of F (R164, R165, R166). -/
def Obligations.PushAndPop : Prop :=
  ∀ (s : State) (p : Rp2),
    encode (Instr.push p) = [opByte (0xC5 + 16 * (rp2Index p).1)] ∧
    exec (Instr.push p) s = .next { pushed s (s.reg16 (rp2Index p).2) with pc := s.pc + 1 } ∧
    encode (Instr.pop p) = [opByte (0xC1 + 16 * (rp2Index p).1)] ∧
    exec (Instr.pop p) s =
      .next { s.setReg16 (rp2Index p).2 (stackTop s) with sp := s.sp + 2, pc := s.pc + 1 }

/-! ### 8-bit arithmetic and logic -/

/-- `ADD A,s` and `ADC A,s` in all their operand forms (18 instructions): the sum mod 256 and its four flags, carry-in
included (R170, R171, R172). -/
def Obligations.AddToAccumulator : Prop :=
  ∀ s : State,
    let a := hiByte s.af
    let sum (size : Word) (v : Byte) (cin : Bool) : State :=
      accDone s size (BitVec.ofNat 8 (a.toNat + v.toNat + cin.toNat))
        (decide ((a.toNat + v.toNat + cin.toNat) % 256 = 0)) false
        (decide (a.toNat % 16 + v.toNat % 16 + cin.toNat > 0xF)) (decide (a.toNat + v.toNat + cin.toNat > 0xFF))
    (∀ r : R8,
      encode (Instr.alu .add r) = [opByte (0x80 + r8Index r)] ∧
      exec (Instr.alu .add r) s = .next (sum 1 (r8Value s r) false) ∧
      encode (Instr.alu .adc r) = [opByte (0x88 + r8Index r)] ∧
      exec (Instr.alu .adc r) s = .next (sum 1 (r8Value s r) s.fC)) ∧
    (∀ d8 : Byte,
      encode (.add_A_d8 d8) = [0xC6, d8] ∧ exec (.add_A_d8 d8) s = .next (sum 2 d8 false) ∧
      encode (.adc_A_d8 d8) = [0xCE, d8] ∧ exec (.adc_A_d8 d8) s = .next (sum 2 d8 s.fC))

/-- `SUB s`, `SBC A,s` and `CP s` in all their operand forms (27 instructions): the difference mod 256, N 1, half-borrow and
borrow with the borrow-in included; `CP` writes the flags only (R170, R173, R174, R178). -/
def Obligations.SubtractFromAccumulator : Prop :=
  ∀ s : State,
    let a := hiByte s.af
    let diff (v : Byte) (bin : Bool) : Byte := BitVec.ofInt 8 ((a.toNat : Int) - v.toNat - bin.toNat)
    let done (size : Word) (result : Byte) (v : Byte) (bin : Bool) : State :=
      accDone s size result (decide (((a.toNat : Int) - v.toNat - bin.toNat) % 256 = 0)) true
        (decide (a.toNat % 16 < v.toNat % 16 + bin.toNat)) (decide (a.toNat < v.toNat + bin.toNat))
    (∀ r : R8,
      let v := r8Value s r
      encode (Instr.alu .sub r) = [opByte (0x90 + r8Index r)] ∧
      exec (Instr.alu .sub r) s = .next (done 1 (diff v false) v false) ∧
      encode (Instr.alu .sbc r) = [opByte (0x98 + r8Index r)] ∧
      exec (Instr.alu .sbc r) s = .next (done 1 (diff v s.fC) v s.fC) ∧
      encode (Instr.alu .cp r) = [opByte (0xB8 + r8Index r)] ∧
      exec (Instr.alu .cp r) s = .next (done 1 a v false)) ∧
    (∀ d8 : Byte,
      encode (.sub_d8 d8) = [0xD6, d8] ∧ exec (.sub_d8 d8) s = .next (done 2 (diff d8 false) d8 false) ∧
      encode (.sbc_A_d8 d8) = [0xDE, d8] ∧ exec (.sbc_A_d8 d8) s = .next (done 2 (diff d8 s.fC) d8 s.fC) ∧
      encode (.cp_d8 d8) = [0xFE, d8] ∧ exec (.cp_d8 d8) s = .next (done 2 a d8 false))

/-- `AND s`, `XOR s` and `OR s` in all their operand forms (27 instructions): the result, Z from it, N and C 0, H 1 for `AND`
only (R170, R175, R176, R177). -/
def Obligations.LogicOnAccumulator : Prop :=
  ∀ s : State,
    let a := hiByte s.af
    let done (size : Word) (result : Byte) (h : Bool) : State :=
      accDone s size result (decide (result = 0)) false h false
    (∀ r : R8,
      let v := r8Value s r
      encode (Instr.alu .and r) = [opByte (0xA0 + r8Index r)] ∧
      exec (Instr.alu .and r) s = .next (done 1 (a &&& v) true) ∧
      encode (Instr.alu .xor r) = [opByte (0xA8 + r8Index r)] ∧
      exec (Instr.alu .xor r) s = .next (done 1 (a ^^^ v) false) ∧
      encode (Instr.alu .or r) = [opByte (0xB0 + r8Index r)] ∧
      exec (Instr.alu .or r) s = .next (done 1 (a ||| v) false)) ∧
    (∀ d8 : Byte,
      encode (.and_d8 d8) = [0xE6, d8] ∧ exec (.and_d8 d8) s = .next (done 2 (a &&& d8) true) ∧
      encode (.xor_d8 d8) = [0xEE, d8] ∧ exec (.xor_d8 d8) s = .next (done 2 (a ^^^ d8) false) ∧
      encode (.or_d8 d8) = [0xF6, d8] ∧ exec (.or_d8 d8) s = .next (done 2 (a ||| d8) false))

/-- `INC r` and `DEC r` (14 instructions): one more or less mod 256, the sibling half untouched, C unchanged, H from the old
low nibble (R179, R181). -/
def Obligations.StepRegister : Prop :=
  ∀ (s : State) (r : R8) (n : Reg8), r8Reg r = some n →
    let v := r8Value s r
    encode (Instr.inc8 r) = [opByte (0x04 + 8 * r8Index r)] ∧
    exec (Instr.inc8 r) s = .next { (s.setReg8 n (v + 1)).setFlags (decide (v = 0xFF)) false
      (decide (v.toNat % 16 = 0xF)) s.fC with pc := s.pc + 1 } ∧
    encode (Instr.dec8 r) = [opByte (0x05 + 8 * r8Index r)] ∧
    exec (Instr.dec8 r) s = .next { (s.setReg8 n (v - 1)).setFlags (decide (v = 0x01)) true
      (decide (v.toNat % 16 = 0x0)) s.fC with pc := s.pc + 1 }

/-- `INC (HL)` and `DEC (HL)`: the byte at HL one more or less, flags as the register forms, written before the store
(R180, R182, 90_conflicts.md C10). -/
def Obligations.StepMemoryByte : Prop :=
  ∀ s : State,
    let v := s.readByte s.hl
    let at1 := { s with pc := s.pc + 1 }
    encode .inc_indHL = [0x34] ∧
    StoreAnswers .inc_indHL s (at1.setFlags (decide (v = 0xFF)) false (decide (v.toNat % 16 = 0xF)) s.fC)
      s.hl (v + 1) id ∧
    encode .dec_indHL = [0x35] ∧
    StoreAnswers .dec_indHL s (at1.setFlags (decide (v = 0x01)) true (decide (v.toNat % 16 = 0x0)) s.fC)
      s.hl (v - 1) id

/-- `DAA`: the corrections of R183, N unchanged, H 0, C set exactly when the 0x60 correction was applied. -/
def Obligations.DecimalAdjust : Prop :=
  ∀ s : State,
    let a := (hiByte s.af).toNat
    let low := s.fH || (!s.fN && decide (a % 16 > 9))
    let high := s.fC || (!s.fN && decide (a > 0x99))
    let corr : Nat := (if low then 0x06 else 0) + (if high then 0x60 else 0)
    let result : Byte := if s.fN then BitVec.ofInt 8 ((a : Int) - corr) else BitVec.ofNat 8 (a + corr)
    encode .daa = [0x27] ∧ exec .daa s = .next (accDone s 1 result (decide (result = 0)) s.fN false high)

/-- `CPL`, `SCF` and `CCF`, with the flags each leaves (R184, R185, R186). -/
def Obligations.ComplementAndCarryFlag : Prop :=
  ∀ s : State,
    let a := hiByte s.af
    (encode .cpl = [0x2F] ∧ exec .cpl s = .next (accDone s 1 (a ^^^ 0xFF) s.fZ true true s.fC)) ∧
    (encode .scf = [0x37] ∧ exec .scf s = .next (accDone s 1 a s.fZ false false true)) ∧
    (encode .ccf = [0x3F] ∧ exec .ccf s = .next (accDone s 1 a s.fZ false false (!s.fC)))

/-! ### 16-bit arithmetic -/

/-- `ADD HL,rr`, `INC rr` and `DEC rr` (12 instructions): the sum with H out of bit 11 and C out of bit 15, Z unchanged and N
0; the counts write no flag (R190, R191, R192). -/
def Obligations.WordArithmetic : Prop :=
  ∀ (s : State) (p : Rp),
    let v := s.reg16 (rpIndex p).2
    encode (Instr.addHl p) = [opByte (0x09 + 16 * (rpIndex p).1)] ∧
    exec (Instr.addHl p) s = .next { s with
      hl := s.hl + v
      af := wordOf (hiByte s.af) (flagByte s.fZ false
        (decide (s.hl.toNat % 4096 + v.toNat % 4096 > 0xFFF)) (decide (s.hl.toNat + v.toNat > 0xFFFF)))
      pc := s.pc + 1 } ∧
    encode (Instr.inc16 p) = [opByte (0x03 + 16 * (rpIndex p).1)] ∧
    exec (Instr.inc16 p) s = .next { s.setReg16 (rpIndex p).2 (v + 1) with pc := s.pc + 1 } ∧
    encode (Instr.dec16 p) = [opByte (0x0B + 16 * (rpIndex p).1)] ∧
    exec (Instr.dec16 p) s = .next { s.setReg16 (rpIndex p).2 (v - 1) with pc := s.pc + 1 }

/-! ### Rotates, shifts, bits -/

/-- `RLCA`, `RRCA`, `RLA`, `RRA`: A rotated as the extended form rotates it, C the bit that leaves, Z, N and H always 0
(R200 to R203, R213). -/
def Obligations.RotateAccumulator : Prop :=
  ∀ s : State,
    let done (op : RotOp) : State :=
      accDone s 1 (rotated op (hiByte s.af) s.fC).1 false false false (rotated op (hiByte s.af) s.fC).2
    (encode .rlca = [0x07] ∧ exec .rlca s = .next (done .rlc)) ∧
    (encode .rrca = [0x0F] ∧ exec .rrca s = .next (done .rrc)) ∧
    (encode .rla = [0x17] ∧ exec .rla s = .next (done .rl)) ∧
    (encode .rra = [0x1F] ∧ exec .rra s = .next (done .rr))

/-- The eight rotates and shifts on a register (56 instructions) and on `(HL)` (8 instructions): result and carry as the
rule wires them, Z from the result, N and H 0, flags written before the store (R204 to R212). -/
def Obligations.RotateAndShift : Prop :=
  ∀ (s : State) (op : RotOp),
    let done (r : R8) (t : State) : State := t.setFlags (decide ((rotated op (r8Value s r) s.fC).1 = 0)) false false
      (rotated op (r8Value s r) s.fC).2
    (∀ r : R8, encode (Instr.rot op r) = [0xCB, opByte (8 * rotIndex op + r8Index r)]) ∧
    (∀ (r : R8) (n : Reg8), r8Reg r = some n →
      exec (Instr.rot op r) s =
        .next { done r (s.setReg8 n (rotated op (r8Value s r) s.fC).1) with pc := s.pc + 2 }) ∧
    StoreAnswers (Instr.rot op .indHL) s (done .indHL { s with pc := s.pc + 2 }) s.hl
      (rotated op (s.readByte s.hl) s.fC).1 id

/-- `BIT b,r` and `BIT b,(HL)` (64 instructions): Z is 1 exactly when the bit is 0, N 0, H 1, C unchanged, nothing written
back (R220). -/
def Obligations.BitTest : Prop :=
  ∀ (s : State) (b : Idx3) (r : R8),
    encode (Instr.bit b r) = [0xCB, opByte (0x40 + 8 * b.toNat + r8Index r)] ∧
    exec (Instr.bit b r) s = .next { s with
      af := wordOf (hiByte s.af) (flagByte (decide ((r8Value s r).toNat / 2 ^ b.toNat % 2 = 0)) false true s.fC)
      pc := s.pc + 2 }

/-- `RES b` and `SET b` on a register (112 instructions) and on `(HL)` (16 instructions): the bit cleared or set, the other
seven kept, written back unconditionally, no flag (R221, R222). -/
def Obligations.BitResetAndSet : Prop :=
  ∀ (s : State) (b : Idx3),
    let at2 := { s with pc := s.pc + 2 }
    (∀ (r : R8) (n : Reg8), r8Reg r = some n →
      encode (Instr.res b r) = [0xCB, opByte (0x80 + 8 * b.toNat + r8Index r)] ∧
      exec (Instr.res b r) s = .next (at2.setReg8 n (bitCleared (r8Value s r) b.toNat)) ∧
      encode (Instr.set b r) = [0xCB, opByte (0xC0 + 8 * b.toNat + r8Index r)] ∧
      exec (Instr.set b r) s = .next (at2.setReg8 n (bitSet (r8Value s r) b.toNat))) ∧
    encode (Instr.res b .indHL) = [0xCB, opByte (0x86 + 8 * b.toNat)] ∧
    StoreAnswers (Instr.res b .indHL) s at2 s.hl (bitCleared (s.readByte s.hl) b.toNat) id ∧
    encode (Instr.set b .indHL) = [0xCB, opByte (0xC6 + 8 * b.toNat)] ∧
    StoreAnswers (Instr.set b .indHL) s at2 s.hl (bitSet (s.readByte s.hl) b.toNat) id

/-! ### Control transfers -/

/-- `JP a16`, `JP cc,a16`, `JP HL`, `JR e8` and `JR cc,e8` (11 instructions): PC at the target if taken, else past the
instruction; a relative target is counted from the address after the operand; nothing else changes (R230 to R235). -/
def Obligations.Jumps : Prop :=
  ∀ s : State,
    (∀ a16 : Word, encode (.jp_a16 a16) = [0xC3, loByte a16, hiByte a16] ∧
      exec (.jp_a16 a16) s = .next { s with pc := a16 }) ∧
    (∀ (cc : Cond) (a16 : Word), encode (Instr.jpCond cc a16) =
        [opByte (0xC2 + 8 * condIndex cc), loByte a16, hiByte a16] ∧
      exec (Instr.jpCond cc a16) s = .next { s with pc := if condition s cc then a16 else s.pc + 3 }) ∧
    (encode .jp_HL = [0xE9] ∧ exec .jp_HL s = .next { s with pc := s.hl }) ∧
    (∀ e8 : Byte, encode (.jr_e8 e8) = [0x18, e8] ∧
      exec (.jr_e8 e8) s = .next { s with pc := s.pc + 2 + e8.signExtend 16 }) ∧
    (∀ (cc : Cond) (e8 : Byte), encode (Instr.jrCond cc e8) = [opByte (0x20 + 8 * condIndex cc), e8] ∧
      exec (Instr.jrCond cc e8) s =
        .next { s with pc := if condition s cc then s.pc + 2 + e8.signExtend 16 else s.pc + 2 })

/-- `CALL a16`, `CALL cc,a16` and `RST n` (13 instructions): the address of the next instruction pushed high byte first, PC at
the target; a condition that fails pushes nothing (R236, R237, R241). -/
def Obligations.Calls : Prop :=
  ∀ s : State,
    (∀ a16 : Word, encode (.call_a16 a16) = [0xCD, loByte a16, hiByte a16] ∧
      exec (.call_a16 a16) s = .next { pushed s (s.pc + 3) with pc := a16 }) ∧
    (∀ (cc : Cond) (a16 : Word), encode (Instr.callCond cc a16) =
        [opByte (0xC4 + 8 * condIndex cc), loByte a16, hiByte a16] ∧
      exec (Instr.callCond cc a16) s =
        .next (if condition s cc then { pushed s (s.pc + 3) with pc := a16 } else { s with pc := s.pc + 3 })) ∧
    (∀ k : Idx3, encode (Instr.rst k) = [opByte (0xC7 + 8 * k.toNat)] ∧
      exec (Instr.rst k) s = .next { pushed s (s.pc + 1) with pc := BitVec.ofNat 16 (8 * k.toNat) })

/-- `RET`, `RET cc` and `RETI` (6 instructions): PC is the popped word, SP two higher; `RETI` also sets IME at once and
dispatches nothing; a condition that fails pops nothing (R238, R239, R240, R271). -/
def Obligations.Returns : Prop :=
  ∀ s : State,
    let returned := { s with pc := stackTop s, sp := s.sp + 2 }
    (encode .ret = [0xC9] ∧ exec .ret s = .next returned) ∧
    (∀ cc : Cond, encode (Instr.retCond cc) = [opByte (0xC0 + 8 * condIndex cc)] ∧
      exec (Instr.retCond cc) s = .next (if condition s cc then returned else { s with pc := s.pc + 1 })) ∧
    (encode .reti = [0xD9] ∧ exec .reti s = .next { returned with ime := true })

/-! ### System instructions -/

/-- `NOP` only moves PC; `DI` and `EI` write IME at once and dispatch nothing (R250, R251, R252). -/
def Obligations.NopAndInterruptLatch : Prop :=
  ∀ s : State,
    (encode .nop = [0x00] ∧ exec .nop s = .next { s with pc := s.pc + 1 }) ∧
    (encode .di = [0xF3] ∧ exec .di s = .next { s with ime := false, pc := s.pc + 1 }) ∧
    (encode .ei = [0xFB] ∧ exec .ei s = .next { s with ime := true, pc := s.pc + 1 })

/-- The prefix byte: fetching the byte after it and running the extended entry is running the two-byte instruction the
decoder reads (R256), and away from 0xFF0F it completes with PC past both bytes. That the prefix row has a constructor of
its own is the model's choice (notes/assumptions/5.md). -/
def Obligations.PrefixRunsTheExtendedInstruction : Prop :=
  ∀ s : State, exec .prefix_CB s = exec (extendedInstr (s.readByte (s.pc + 1))) s ∧
    (s.hl ≠ 0xFF0F → ∃ t, exec .prefix_CB s = .next t ∧ t.crash = s.crash ∧ t.pc = s.pc + 2)

/-! ### The host between steps -/

/-- `SerialClear()` empties the buffer and clears the marker, `SerialIsEndOfLine()` reads the marker, and a host write of a
byte is a plain store that never dispatches; none of them changes anything else (R283, R284, R308). -/
def Obligations.HostOperations : Prop :=
  ∀ s : State, s.serialClear = { s with serial := [], serialEol := false } ∧ s.serialIsEndOfLine = s.serialEol ∧
    ∀ (a : Word) (v : Byte), s.hostWrite a v = { s with mem := Memory.write s.mem a.toNat v } ∧
      (s.hostWrite a v).readByte a = v
end

