-- ==== Sys2Proof/Laws/Encoding.lean ====
section
/-!
SUPPORT. Sys2Proof/Laws/Encoding.lean: laws of byte order and of the decoder.
-/

namespace Sys2Proof

theorem toNat_wordOf (hi lo : Byte) : (wordOf hi lo).toNat = hi.toNat * 256 + lo.toNat := by
  show (hi ++ lo).toNat = _
  rw [BitVec.toNat_append, ← Nat.shiftLeft_add_eq_or_of_lt lo.isLt, Nat.shiftLeft_eq]

theorem toNat_hiByte (w : Word) : (hiByte w).toNat = w.toNat / 256 := by
  have := w.isLt
  simp only [hiByte, BitVec.extractLsb'_toNat, Nat.shiftRight_eq_div_pow]
  omega

theorem toNat_loByte (w : Word) : (loByte w).toNat = w.toNat % 256 := by
  simp [loByte, BitVec.extractLsb'_toNat]

@[simp] theorem wordOf_hiByte_loByte (w : Word) : wordOf (hiByte w) (loByte w) = w := by
  apply BitVec.eq_of_toNat_eq
  rw [toNat_wordOf, toNat_hiByte, toNat_loByte]
  omega

@[simp] theorem hiByte_wordOf (hi lo : Byte) : hiByte (wordOf hi lo) = hi := by
  apply BitVec.eq_of_toNat_eq
  have := lo.isLt
  rw [toNat_hiByte, toNat_wordOf]
  omega

@[simp] theorem loByte_wordOf (hi lo : Byte) : loByte (wordOf hi lo) = lo := by
  apply BitVec.eq_of_toNat_eq
  have := lo.isLt
  rw [toNat_loByte, toNat_wordOf]
  omega

/-- A row whose operand is a word gives the operand back, once the bytes decode to it with its halves joined. -/
theorem decode_of_joined (f : Word → Instr) (w : Word)
    (h : ∀ rest, decode (encode (f w) ++ rest) = .ok (f (wordOf (hiByte w) (loByte w)), rest)) :
    ∀ rest, decode (encode (f w) ++ rest) = .ok (f w, rest) := by
  intro rest
  rw [h rest, wordOf_hiByte_loByte]

/-- On three bytes the list decoder reads what the window decoder reads. -/
theorem decode_window (b0 b1 b2 : Byte) : ∃ rest, decode [b0, b1, b2] = .ok (decodeWindow b0 b1 b2, rest) := by
  unfold decode decodeWindow
  by_cases h : b0 = extPrefix
  · exact ⟨[b2], by simp [h]⟩
  · cases hr : primaryRow b0 with
    | plain i => exact ⟨[b1, b2], by simp [h, hr]⟩
    | byte f => exact ⟨[b2], by simp [h, hr]⟩
    | word f => exact ⟨[], by simp [h, hr]⟩

/-- What the list decoder reads from three bytes is what the window decoder reads. -/
theorem decodeWindow_of_decode {b0 b1 b2 : Byte} {i : Instr} {rest : List Byte}
    (h : decode [b0, b1, b2] = .ok (i, rest)) : decodeWindow b0 b1 b2 = i := by
  obtain ⟨r, hr⟩ := decode_window b0 b1 b2
  rw [h] at hr
  injection hr with hr
  exact (Prod.mk.inj hr).1.symm

end Sys2Proof
end

