-- ==== Sys2Proof/Laws/Memory.lean ====
section
/-!
SUPPORT. Sys2Proof/Laws/Memory.lean: reading after writing, and that every memory operation keeps the canonical form.
-/

namespace Sys2Proof.Machine

theorem Memory.read_erase (m : Memory) (a b : Nat) :
    Memory.read (Memory.erase m a) b = if b = a then Config.fillByte else Memory.read m b := by
  induction m with
  | nil => simp [Memory.erase, Memory.read]
  | cons c rest ih =>
    obtain ⟨k, v⟩ := c
    simp only [Memory.erase, Memory.read]
    split
    next hk =>
      rw [ih]
      split <;> simp_all
    next hk =>
      simp only [Memory.read, ih]
      by_cases hb : b = k
      · subst hb
        simp [Ne.symm hk]
      · simp [hb]

theorem Memory.read_insert_self (m : Memory) (a : Nat) (v : Byte)
    (hm : Memory.erase m a = m) : Memory.read (Memory.insert m a v) a = v := by
  induction m with
  | nil => simp [Memory.insert, Memory.read]
  | cons c rest ih =>
    obtain ⟨k, w⟩ := c
    simp only [Memory.erase] at hm
    split at hm
    next hk =>
      have : (Memory.erase rest a).length = (rest.length + 1) := by rw [hm]; rfl
      have hle : ∀ l : Memory, (Memory.erase l a).length ≤ l.length := by
        intro l
        induction l with
        | nil => simp [Memory.erase]
        | cons d l ih =>
          obtain ⟨j, u⟩ := d
          simp only [Memory.erase]
          split <;> simp <;> omega
      have := hle rest
      omega
    next hk =>
      simp only [Memory.insert]
      split
      · simp [Memory.read]
      · simp only [Memory.read, if_neg hk]
        exact ih (List.cons.inj hm).2

theorem Memory.read_insert_ne (m : Memory) (a b : Nat) (v : Byte) (h : b ≠ a) :
    Memory.read (Memory.insert m a v) b = Memory.read m b := by
  induction m with
  | nil => simp [Memory.insert, Memory.read, h]
  | cons c rest ih =>
    obtain ⟨k, w⟩ := c
    simp only [Memory.insert]
    split
    · simp [Memory.read, h]
    · simp only [Memory.read, ih]

theorem Memory.erase_erase (m : Memory) (a : Nat) : Memory.erase (Memory.erase m a) a = Memory.erase m a := by
  induction m with
  | nil => rfl
  | cons c rest ih =>
    obtain ⟨k, w⟩ := c
    simp only [Memory.erase]
    split
    · exact ih
    next h => simp only [Memory.erase, if_neg h, ih]

/-- A write is read back at its address and leaves every other address (R52, R53); for every list, canonical or not. -/
theorem Memory.read_write (m : Memory) (a b : Nat) (v : Byte) :
    Memory.read (Memory.write m a v) b = if b = a then v else Memory.read m b := by
  unfold Memory.write
  split
  next h => rw [Memory.read_erase, h]
  next h =>
    split
    next hb =>
      subst hb
      exact Memory.read_insert_self _ _ _ (Memory.erase_erase m b)
    next hb => rw [Memory.read_insert_ne _ _ _ _ hb, Memory.read_erase, if_neg hb]

theorem Memory.wfFrom_mono {low low' : Nat} (h : low ≤ low') (m : Memory) (hm : Memory.wfFrom low' m = true) :
    Memory.wfFrom low m = true := by
  cases m with
  | nil => rfl
  | cons c rest =>
    obtain ⟨k, w⟩ := c
    simp only [Memory.wfFrom, Bool.and_eq_true, decide_eq_true_eq] at hm ⊢
    exact ⟨⟨⟨by omega, hm.1.1.2⟩, hm.1.2⟩, hm.2⟩

theorem Memory.wfFrom_erase (low a : Nat) (m : Memory) (hm : Memory.wfFrom low m = true) :
    Memory.wfFrom low (Memory.erase m a) = true := by
  induction m generalizing low with
  | nil => rfl
  | cons c rest ih =>
    obtain ⟨k, w⟩ := c
    simp only [Memory.wfFrom, Bool.and_eq_true, decide_eq_true_eq] at hm
    simp only [Memory.erase]
    split
    · exact Memory.wfFrom_mono (by omega) _ (ih _ hm.2)
    · simp only [Memory.wfFrom, Bool.and_eq_true, decide_eq_true_eq]
      exact ⟨hm.1, ih _ hm.2⟩

theorem Memory.wfFrom_insert (low a : Nat) (v : Byte) (m : Memory) (hlow : low ≤ a)
    (ha : a < Config.addressSpaceSize) (hv : v ≠ Config.fillByte) (hm : Memory.wfFrom low m = true)
    (he : Memory.erase m a = m) : Memory.wfFrom low (Memory.insert m a v) = true := by
  induction m generalizing low with
  | nil => simp [Memory.insert, Memory.wfFrom, hlow, ha, hv]
  | cons c rest ih =>
    obtain ⟨k, w⟩ := c
    simp only [Memory.wfFrom, Bool.and_eq_true, decide_eq_true_eq] at hm
    have hk : a ≠ k := by
      intro hk
      have h2 := Memory.read_insert_self ((k, w) :: rest) a v he
      subst hk
      simp [Memory.insert, Memory.read] at h2
      have h3 := Memory.read_erase ((a, w) :: rest) a a
      rw [he] at h3
      simp only [if_true, Memory.read] at h3
      exact absurd h3 (by simpa using hm.1.2)
    simp only [Memory.insert]
    split
    · simp only [Memory.wfFrom, Bool.and_eq_true, decide_eq_true_eq, bne_iff_ne, ne_eq]
      exact ⟨⟨⟨hlow, ha⟩, hv⟩, ⟨⟨⟨by omega, hm.1.1.2⟩, by simpa using hm.1.2⟩, hm.2⟩⟩
    · simp only [Memory.wfFrom, Bool.and_eq_true, decide_eq_true_eq]
      simp only [Memory.erase, if_neg hk] at he
      exact ⟨hm.1, ih _ (by omega) hm.2 (List.cons.inj he).2⟩

/-- A store inside the Address Space keeps the canonical form. -/
theorem Memory.wf_write (m : Memory) (a : Nat) (v : Byte) (ha : a < Config.addressSpaceSize)
    (hm : Memory.wf m = true) : Memory.wf (Memory.write m a v) = true := by
  unfold Memory.write
  split
  · exact Memory.wfFrom_erase 0 a m hm
  next h => exact Memory.wfFrom_insert 0 a v _ (Nat.zero_le a) ha h (Memory.wfFrom_erase 0 a m hm) (Memory.erase_erase m a)

/-- A word is an address of the Address Space. -/
theorem Memory.addr_lt (a : Word) : a.toNat < Config.addressSpaceSize := a.isLt

/-- Reading one byte after a plain store of one byte. -/
theorem State.readByte_storeByte (s : State) (a b : Word) (v : Byte) :
    (s.storeByte a v).readByte b = if b = a then v else s.readByte b := by
  show Memory.read (Memory.write s.mem a.toNat v) b.toNat = _
  rw [Memory.read_write]
  simp only [BitVec.toNat_inj]
  rfl

/-- A plain store keeps the canonical form. -/
theorem State.wf_storeByte (s : State) (a : Word) (v : Byte) (h : Memory.wf s.mem = true) :
    Memory.wf (s.storeByte a v).mem = true :=
  Memory.wf_write _ _ _ (Memory.addr_lt a) h

/-- The two stores of a word keep the canonical form. -/
theorem State.wf_storeWord (s : State) (a v : Word) (h : Memory.wf s.mem = true) :
    Memory.wf (s.storeWord a v).mem = true :=
  State.wf_storeByte _ _ _ (State.wf_storeByte _ _ _ h)

/-- A push keeps the canonical form. -/
theorem State.wf_push8 (s : State) (v : Byte) (h : Memory.wf s.mem = true) : Memory.wf (s.push8 v).mem = true :=
  State.wf_storeByte { s with sp := s.sp - 1 } _ _ h

/-- A push of a word keeps the canonical form. -/
theorem State.wf_push16 (s : State) (v : Word) (h : Memory.wf s.mem = true) : Memory.wf (s.push16 v).mem = true :=
  State.wf_push8 _ _ (State.wf_push8 _ _ h)

end Sys2Proof.Machine
end

