-- ==== Sys2Proof/Laws/State.lean ====
section
/-!
SUPPORT. Sys2Proof/Laws/State.lean: one lemma per field per update of the state, so that no proof unfolds a record update.
-/

namespace Sys2Proof.Machine

/-! ### `storeByte` -/

@[simp] theorem State.storeByte_af (s : State) (a : Word) (v : Byte) : (s.storeByte a v).af = s.af := rfl
@[simp] theorem State.storeByte_bc (s : State) (a : Word) (v : Byte) : (s.storeByte a v).bc = s.bc := rfl
@[simp] theorem State.storeByte_de (s : State) (a : Word) (v : Byte) : (s.storeByte a v).de = s.de := rfl
@[simp] theorem State.storeByte_hl (s : State) (a : Word) (v : Byte) : (s.storeByte a v).hl = s.hl := rfl
@[simp] theorem State.storeByte_sp (s : State) (a : Word) (v : Byte) : (s.storeByte a v).sp = s.sp := rfl
@[simp] theorem State.storeByte_pc (s : State) (a : Word) (v : Byte) : (s.storeByte a v).pc = s.pc := rfl
@[simp] theorem State.storeByte_ime (s : State) (a : Word) (v : Byte) : (s.storeByte a v).ime = s.ime := rfl
@[simp] theorem State.storeByte_mem (s : State) (a : Word) (v : Byte) : (s.storeByte a v).mem = Memory.write s.mem a.toNat v := rfl
@[simp] theorem State.storeByte_crash (s : State) (a : Word) (v : Byte) : (s.storeByte a v).crash = s.crash := rfl
@[simp] theorem State.storeByte_icount (s : State) (a : Word) (v : Byte) : (s.storeByte a v).icount = s.icount := rfl
@[simp] theorem State.storeByte_serial (s : State) (a : Word) (v : Byte) : (s.storeByte a v).serial = s.serial := rfl
@[simp] theorem State.storeByte_serialEol (s : State) (a : Word) (v : Byte) : (s.storeByte a v).serialEol = s.serialEol := rfl
@[simp] theorem State.storeByte_serialCapacity (s : State) (a : Word) (v : Byte) : (s.storeByte a v).serialCapacity = s.serialCapacity := rfl

/-! ### `storeWord` -/

@[simp] theorem State.storeWord_af (s : State) (a v : Word) : (s.storeWord a v).af = s.af := rfl
@[simp] theorem State.storeWord_bc (s : State) (a v : Word) : (s.storeWord a v).bc = s.bc := rfl
@[simp] theorem State.storeWord_de (s : State) (a v : Word) : (s.storeWord a v).de = s.de := rfl
@[simp] theorem State.storeWord_hl (s : State) (a v : Word) : (s.storeWord a v).hl = s.hl := rfl
@[simp] theorem State.storeWord_sp (s : State) (a v : Word) : (s.storeWord a v).sp = s.sp := rfl
@[simp] theorem State.storeWord_pc (s : State) (a v : Word) : (s.storeWord a v).pc = s.pc := rfl
@[simp] theorem State.storeWord_ime (s : State) (a v : Word) : (s.storeWord a v).ime = s.ime := rfl
@[simp] theorem State.storeWord_mem (s : State) (a v : Word) : (s.storeWord a v).mem = Memory.write (Memory.write s.mem a.toNat (loByte v)) (a + 1).toNat (hiByte v) := rfl
@[simp] theorem State.storeWord_crash (s : State) (a v : Word) : (s.storeWord a v).crash = s.crash := rfl
@[simp] theorem State.storeWord_icount (s : State) (a v : Word) : (s.storeWord a v).icount = s.icount := rfl
@[simp] theorem State.storeWord_serial (s : State) (a v : Word) : (s.storeWord a v).serial = s.serial := rfl
@[simp] theorem State.storeWord_serialEol (s : State) (a v : Word) : (s.storeWord a v).serialEol = s.serialEol := rfl
@[simp] theorem State.storeWord_serialCapacity (s : State) (a v : Word) : (s.storeWord a v).serialCapacity = s.serialCapacity := rfl

/-! ### `setPc` -/

@[simp] theorem State.setPc_af (s : State) (v : Word) : (s.setPc v).af = s.af := rfl
@[simp] theorem State.setPc_bc (s : State) (v : Word) : (s.setPc v).bc = s.bc := rfl
@[simp] theorem State.setPc_de (s : State) (v : Word) : (s.setPc v).de = s.de := rfl
@[simp] theorem State.setPc_hl (s : State) (v : Word) : (s.setPc v).hl = s.hl := rfl
@[simp] theorem State.setPc_sp (s : State) (v : Word) : (s.setPc v).sp = s.sp := rfl
@[simp] theorem State.setPc_pc (s : State) (v : Word) : (s.setPc v).pc = v := rfl
@[simp] theorem State.setPc_ime (s : State) (v : Word) : (s.setPc v).ime = s.ime := rfl
@[simp] theorem State.setPc_mem (s : State) (v : Word) : (s.setPc v).mem = s.mem := rfl
@[simp] theorem State.setPc_crash (s : State) (v : Word) : (s.setPc v).crash = s.crash := rfl
@[simp] theorem State.setPc_icount (s : State) (v : Word) : (s.setPc v).icount = s.icount := rfl
@[simp] theorem State.setPc_serial (s : State) (v : Word) : (s.setPc v).serial = s.serial := rfl
@[simp] theorem State.setPc_serialEol (s : State) (v : Word) : (s.setPc v).serialEol = s.serialEol := rfl
@[simp] theorem State.setPc_serialCapacity (s : State) (v : Word) : (s.setPc v).serialCapacity = s.serialCapacity := rfl
@[simp] theorem State.setPc_readByte (s : State) (v : Word) (k : Word) : (s.setPc v).readByte k = s.readByte k := rfl

/-! ### `advance` -/

@[simp] theorem State.advance_af (s : State) (n : Word) : (s.advance n).af = s.af := rfl
@[simp] theorem State.advance_bc (s : State) (n : Word) : (s.advance n).bc = s.bc := rfl
@[simp] theorem State.advance_de (s : State) (n : Word) : (s.advance n).de = s.de := rfl
@[simp] theorem State.advance_hl (s : State) (n : Word) : (s.advance n).hl = s.hl := rfl
@[simp] theorem State.advance_sp (s : State) (n : Word) : (s.advance n).sp = s.sp := rfl
@[simp] theorem State.advance_pc (s : State) (n : Word) : (s.advance n).pc = s.pc + n := rfl
@[simp] theorem State.advance_ime (s : State) (n : Word) : (s.advance n).ime = s.ime := rfl
@[simp] theorem State.advance_mem (s : State) (n : Word) : (s.advance n).mem = s.mem := rfl
@[simp] theorem State.advance_crash (s : State) (n : Word) : (s.advance n).crash = s.crash := rfl
@[simp] theorem State.advance_icount (s : State) (n : Word) : (s.advance n).icount = s.icount := rfl
@[simp] theorem State.advance_serial (s : State) (n : Word) : (s.advance n).serial = s.serial := rfl
@[simp] theorem State.advance_serialEol (s : State) (n : Word) : (s.advance n).serialEol = s.serialEol := rfl
@[simp] theorem State.advance_serialCapacity (s : State) (n : Word) : (s.advance n).serialCapacity = s.serialCapacity := rfl
@[simp] theorem State.advance_readByte (s : State) (n : Word) (k : Word) : (s.advance n).readByte k = s.readByte k := rfl

/-! ### `setIme` -/

@[simp] theorem State.setIme_af (s : State) (v : Bool) : (s.setIme v).af = s.af := rfl
@[simp] theorem State.setIme_bc (s : State) (v : Bool) : (s.setIme v).bc = s.bc := rfl
@[simp] theorem State.setIme_de (s : State) (v : Bool) : (s.setIme v).de = s.de := rfl
@[simp] theorem State.setIme_hl (s : State) (v : Bool) : (s.setIme v).hl = s.hl := rfl
@[simp] theorem State.setIme_sp (s : State) (v : Bool) : (s.setIme v).sp = s.sp := rfl
@[simp] theorem State.setIme_pc (s : State) (v : Bool) : (s.setIme v).pc = s.pc := rfl
@[simp] theorem State.setIme_ime (s : State) (v : Bool) : (s.setIme v).ime = v := rfl
@[simp] theorem State.setIme_mem (s : State) (v : Bool) : (s.setIme v).mem = s.mem := rfl
@[simp] theorem State.setIme_crash (s : State) (v : Bool) : (s.setIme v).crash = s.crash := rfl
@[simp] theorem State.setIme_icount (s : State) (v : Bool) : (s.setIme v).icount = s.icount := rfl
@[simp] theorem State.setIme_serial (s : State) (v : Bool) : (s.setIme v).serial = s.serial := rfl
@[simp] theorem State.setIme_serialEol (s : State) (v : Bool) : (s.setIme v).serialEol = s.serialEol := rfl
@[simp] theorem State.setIme_serialCapacity (s : State) (v : Bool) : (s.setIme v).serialCapacity = s.serialCapacity := rfl
@[simp] theorem State.setIme_readByte (s : State) (v : Bool) (k : Word) : (s.setIme v).readByte k = s.readByte k := rfl

/-! ### `setFlags` -/

@[simp] theorem State.setFlags_af (s : State) (z n h c : Bool) : (s.setFlags z n h c).af = wordOf (hiByte s.af) (flagByte z n h c) := rfl
@[simp] theorem State.setFlags_bc (s : State) (z n h c : Bool) : (s.setFlags z n h c).bc = s.bc := rfl
@[simp] theorem State.setFlags_de (s : State) (z n h c : Bool) : (s.setFlags z n h c).de = s.de := rfl
@[simp] theorem State.setFlags_hl (s : State) (z n h c : Bool) : (s.setFlags z n h c).hl = s.hl := rfl
@[simp] theorem State.setFlags_sp (s : State) (z n h c : Bool) : (s.setFlags z n h c).sp = s.sp := rfl
@[simp] theorem State.setFlags_pc (s : State) (z n h c : Bool) : (s.setFlags z n h c).pc = s.pc := rfl
@[simp] theorem State.setFlags_ime (s : State) (z n h c : Bool) : (s.setFlags z n h c).ime = s.ime := rfl
@[simp] theorem State.setFlags_mem (s : State) (z n h c : Bool) : (s.setFlags z n h c).mem = s.mem := rfl
@[simp] theorem State.setFlags_crash (s : State) (z n h c : Bool) : (s.setFlags z n h c).crash = s.crash := rfl
@[simp] theorem State.setFlags_icount (s : State) (z n h c : Bool) : (s.setFlags z n h c).icount = s.icount := rfl
@[simp] theorem State.setFlags_serial (s : State) (z n h c : Bool) : (s.setFlags z n h c).serial = s.serial := rfl
@[simp] theorem State.setFlags_serialEol (s : State) (z n h c : Bool) : (s.setFlags z n h c).serialEol = s.serialEol := rfl
@[simp] theorem State.setFlags_serialCapacity (s : State) (z n h c : Bool) : (s.setFlags z n h c).serialCapacity = s.serialCapacity := rfl
@[simp] theorem State.setFlags_readByte (s : State) (z n h c : Bool) (k : Word) : (s.setFlags z n h c).readByte k = s.readByte k := rfl

/-! ### `enterCrashed` -/

@[simp] theorem State.enterCrashed_af (s : State) (cause : CrashCause) (op : Byte) : (s.enterCrashed cause op).af = s.af := rfl
@[simp] theorem State.enterCrashed_bc (s : State) (cause : CrashCause) (op : Byte) : (s.enterCrashed cause op).bc = s.bc := rfl
@[simp] theorem State.enterCrashed_de (s : State) (cause : CrashCause) (op : Byte) : (s.enterCrashed cause op).de = s.de := rfl
@[simp] theorem State.enterCrashed_hl (s : State) (cause : CrashCause) (op : Byte) : (s.enterCrashed cause op).hl = s.hl := rfl
@[simp] theorem State.enterCrashed_sp (s : State) (cause : CrashCause) (op : Byte) : (s.enterCrashed cause op).sp = s.sp := rfl
@[simp] theorem State.enterCrashed_pc (s : State) (cause : CrashCause) (op : Byte) : (s.enterCrashed cause op).pc = s.pc := rfl
@[simp] theorem State.enterCrashed_ime (s : State) (cause : CrashCause) (op : Byte) : (s.enterCrashed cause op).ime = s.ime := rfl
@[simp] theorem State.enterCrashed_mem (s : State) (cause : CrashCause) (op : Byte) : (s.enterCrashed cause op).mem = s.mem := rfl
@[simp] theorem State.enterCrashed_crash (s : State) (cause : CrashCause) (op : Byte) : (s.enterCrashed cause op).crash = some ⟨cause, op, s.icount⟩ := rfl
@[simp] theorem State.enterCrashed_icount (s : State) (cause : CrashCause) (op : Byte) : (s.enterCrashed cause op).icount = s.icount := rfl
@[simp] theorem State.enterCrashed_serial (s : State) (cause : CrashCause) (op : Byte) : (s.enterCrashed cause op).serial = s.serial := rfl
@[simp] theorem State.enterCrashed_serialEol (s : State) (cause : CrashCause) (op : Byte) : (s.enterCrashed cause op).serialEol = s.serialEol := rfl
@[simp] theorem State.enterCrashed_serialCapacity (s : State) (cause : CrashCause) (op : Byte) : (s.enterCrashed cause op).serialCapacity = s.serialCapacity := rfl
@[simp] theorem State.enterCrashed_readByte (s : State) (cause : CrashCause) (op : Byte) (k : Word) : (s.enterCrashed cause op).readByte k = s.readByte k := rfl

/-! ### `push8` -/

@[simp] theorem State.push8_af (s : State) (v : Byte) : (s.push8 v).af = s.af := rfl
@[simp] theorem State.push8_bc (s : State) (v : Byte) : (s.push8 v).bc = s.bc := rfl
@[simp] theorem State.push8_de (s : State) (v : Byte) : (s.push8 v).de = s.de := rfl
@[simp] theorem State.push8_hl (s : State) (v : Byte) : (s.push8 v).hl = s.hl := rfl
@[simp] theorem State.push8_sp (s : State) (v : Byte) : (s.push8 v).sp = s.sp - 1 := rfl
@[simp] theorem State.push8_pc (s : State) (v : Byte) : (s.push8 v).pc = s.pc := rfl
@[simp] theorem State.push8_ime (s : State) (v : Byte) : (s.push8 v).ime = s.ime := rfl
@[simp] theorem State.push8_mem (s : State) (v : Byte) : (s.push8 v).mem = Memory.write s.mem (s.sp - 1).toNat v := rfl
@[simp] theorem State.push8_crash (s : State) (v : Byte) : (s.push8 v).crash = s.crash := rfl
@[simp] theorem State.push8_icount (s : State) (v : Byte) : (s.push8 v).icount = s.icount := rfl
@[simp] theorem State.push8_serial (s : State) (v : Byte) : (s.push8 v).serial = s.serial := rfl
@[simp] theorem State.push8_serialEol (s : State) (v : Byte) : (s.push8 v).serialEol = s.serialEol := rfl
@[simp] theorem State.push8_serialCapacity (s : State) (v : Byte) : (s.push8 v).serialCapacity = s.serialCapacity := rfl

/-! ### `push16` -/

@[simp] theorem State.push16_af (s : State) (v : Word) : (s.push16 v).af = s.af := rfl
@[simp] theorem State.push16_bc (s : State) (v : Word) : (s.push16 v).bc = s.bc := rfl
@[simp] theorem State.push16_de (s : State) (v : Word) : (s.push16 v).de = s.de := rfl
@[simp] theorem State.push16_hl (s : State) (v : Word) : (s.push16 v).hl = s.hl := rfl
@[simp] theorem State.push16_sp (s : State) (v : Word) : (s.push16 v).sp = s.sp - 1 - 1 := rfl
@[simp] theorem State.push16_pc (s : State) (v : Word) : (s.push16 v).pc = s.pc := rfl
@[simp] theorem State.push16_ime (s : State) (v : Word) : (s.push16 v).ime = s.ime := rfl
@[simp] theorem State.push16_mem (s : State) (v : Word) : (s.push16 v).mem = Memory.write (Memory.write s.mem (s.sp - 1).toNat (hiByte v)) (s.sp - 1 - 1).toNat (loByte v) := rfl
@[simp] theorem State.push16_crash (s : State) (v : Word) : (s.push16 v).crash = s.crash := rfl
@[simp] theorem State.push16_icount (s : State) (v : Word) : (s.push16 v).icount = s.icount := rfl
@[simp] theorem State.push16_serial (s : State) (v : Word) : (s.push16 v).serial = s.serial := rfl
@[simp] theorem State.push16_serialEol (s : State) (v : Word) : (s.push16 v).serialEol = s.serialEol := rfl
@[simp] theorem State.push16_serialCapacity (s : State) (v : Word) : (s.push16 v).serialCapacity = s.serialCapacity := rfl

/-! ### `setReg8` -/

@[simp] theorem State.setReg8_sp (s : State) (r : Reg8) (v : Byte) : (s.setReg8 r v).sp = s.sp := by
  cases r <;> rfl
@[simp] theorem State.setReg8_pc (s : State) (r : Reg8) (v : Byte) : (s.setReg8 r v).pc = s.pc := by
  cases r <;> rfl
@[simp] theorem State.setReg8_ime (s : State) (r : Reg8) (v : Byte) : (s.setReg8 r v).ime = s.ime := by
  cases r <;> rfl
@[simp] theorem State.setReg8_mem (s : State) (r : Reg8) (v : Byte) : (s.setReg8 r v).mem = s.mem := by
  cases r <;> rfl
@[simp] theorem State.setReg8_crash (s : State) (r : Reg8) (v : Byte) : (s.setReg8 r v).crash = s.crash := by
  cases r <;> rfl
@[simp] theorem State.setReg8_icount (s : State) (r : Reg8) (v : Byte) : (s.setReg8 r v).icount = s.icount := by
  cases r <;> rfl
@[simp] theorem State.setReg8_serial (s : State) (r : Reg8) (v : Byte) : (s.setReg8 r v).serial = s.serial := by
  cases r <;> rfl
@[simp] theorem State.setReg8_serialEol (s : State) (r : Reg8) (v : Byte) : (s.setReg8 r v).serialEol = s.serialEol := by
  cases r <;> rfl
@[simp] theorem State.setReg8_serialCapacity (s : State) (r : Reg8) (v : Byte) : (s.setReg8 r v).serialCapacity = s.serialCapacity := by
  cases r <;> rfl
@[simp] theorem State.setReg8_readByte (s : State) (r : Reg8) (v : Byte) (k : Word) :
    (s.setReg8 r v).readByte k = s.readByte k := by
  cases r <;> rfl

/-! ### `setReg16` -/

@[simp] theorem State.setReg16_pc (s : State) (r : Reg16) (v : Word) : (s.setReg16 r v).pc = s.pc := by
  cases r <;> rfl
@[simp] theorem State.setReg16_ime (s : State) (r : Reg16) (v : Word) : (s.setReg16 r v).ime = s.ime := by
  cases r <;> rfl
@[simp] theorem State.setReg16_mem (s : State) (r : Reg16) (v : Word) : (s.setReg16 r v).mem = s.mem := by
  cases r <;> rfl
@[simp] theorem State.setReg16_crash (s : State) (r : Reg16) (v : Word) : (s.setReg16 r v).crash = s.crash := by
  cases r <;> rfl
@[simp] theorem State.setReg16_icount (s : State) (r : Reg16) (v : Word) : (s.setReg16 r v).icount = s.icount := by
  cases r <;> rfl
@[simp] theorem State.setReg16_serial (s : State) (r : Reg16) (v : Word) : (s.setReg16 r v).serial = s.serial := by
  cases r <;> rfl
@[simp] theorem State.setReg16_serialEol (s : State) (r : Reg16) (v : Word) : (s.setReg16 r v).serialEol = s.serialEol := by
  cases r <;> rfl
@[simp] theorem State.setReg16_serialCapacity (s : State) (r : Reg16) (v : Word) : (s.setReg16 r v).serialCapacity = s.serialCapacity := by
  cases r <;> rfl
@[simp] theorem State.setReg16_readByte (s : State) (r : Reg16) (v : Word) (k : Word) :
    (s.setReg16 r v).readByte k = s.readByte k := by
  cases r <;> rfl

/-! ### `pop16`, `returnFromCall`, `returnFromInterrupt` -/

@[simp] theorem State.pop16_fst (s : State) :
    s.pop16.1 = wordOf (s.readByte (s.sp + 1)) (s.readByte s.sp) := rfl
@[simp] theorem State.pop16_snd_af (s : State) : s.pop16.2.af = s.af := rfl
@[simp] theorem State.pop16_snd_bc (s : State) : s.pop16.2.bc = s.bc := rfl
@[simp] theorem State.pop16_snd_de (s : State) : s.pop16.2.de = s.de := rfl
@[simp] theorem State.pop16_snd_hl (s : State) : s.pop16.2.hl = s.hl := rfl
@[simp] theorem State.pop16_snd_sp (s : State) : s.pop16.2.sp = s.sp + 1 + 1 := rfl
@[simp] theorem State.pop16_snd_pc (s : State) : s.pop16.2.pc = s.pc := rfl
@[simp] theorem State.pop16_snd_ime (s : State) : s.pop16.2.ime = s.ime := rfl
@[simp] theorem State.pop16_snd_mem (s : State) : s.pop16.2.mem = s.mem := rfl
@[simp] theorem State.pop16_snd_crash (s : State) : s.pop16.2.crash = s.crash := rfl
@[simp] theorem State.pop16_snd_icount (s : State) : s.pop16.2.icount = s.icount := rfl
@[simp] theorem State.pop16_snd_serial (s : State) : s.pop16.2.serial = s.serial := rfl
@[simp] theorem State.pop16_snd_serialEol (s : State) : s.pop16.2.serialEol = s.serialEol := rfl
@[simp] theorem State.pop16_snd_serialCapacity (s : State) : s.pop16.2.serialCapacity = s.serialCapacity := rfl
@[simp] theorem State.pop16_snd_readByte (s : State) (k : Word) : s.pop16.2.readByte k = s.readByte k := rfl
@[simp] theorem State.returnFromCall_af (s : State) : s.returnFromCall.af = s.af := rfl
@[simp] theorem State.returnFromCall_bc (s : State) : s.returnFromCall.bc = s.bc := rfl
@[simp] theorem State.returnFromCall_de (s : State) : s.returnFromCall.de = s.de := rfl
@[simp] theorem State.returnFromCall_hl (s : State) : s.returnFromCall.hl = s.hl := rfl
@[simp] theorem State.returnFromCall_sp (s : State) : s.returnFromCall.sp = s.sp + 1 + 1 := rfl
@[simp] theorem State.returnFromCall_pc (s : State) : s.returnFromCall.pc = wordOf (s.readByte (s.sp + 1)) (s.readByte s.sp) := rfl
@[simp] theorem State.returnFromCall_ime (s : State) : s.returnFromCall.ime = s.ime := rfl
@[simp] theorem State.returnFromCall_mem (s : State) : s.returnFromCall.mem = s.mem := rfl
@[simp] theorem State.returnFromCall_crash (s : State) : s.returnFromCall.crash = s.crash := rfl
@[simp] theorem State.returnFromCall_icount (s : State) : s.returnFromCall.icount = s.icount := rfl
@[simp] theorem State.returnFromCall_serial (s : State) : s.returnFromCall.serial = s.serial := rfl
@[simp] theorem State.returnFromCall_serialEol (s : State) : s.returnFromCall.serialEol = s.serialEol := rfl
@[simp] theorem State.returnFromCall_serialCapacity (s : State) : s.returnFromCall.serialCapacity = s.serialCapacity := rfl
@[simp] theorem State.returnFromCall_readByte (s : State) (k : Word) : s.returnFromCall.readByte k = s.readByte k := rfl
@[simp] theorem State.returnFromInterrupt_af (s : State) : s.returnFromInterrupt.af = s.af := rfl
@[simp] theorem State.returnFromInterrupt_bc (s : State) : s.returnFromInterrupt.bc = s.bc := rfl
@[simp] theorem State.returnFromInterrupt_de (s : State) : s.returnFromInterrupt.de = s.de := rfl
@[simp] theorem State.returnFromInterrupt_hl (s : State) : s.returnFromInterrupt.hl = s.hl := rfl
@[simp] theorem State.returnFromInterrupt_sp (s : State) : s.returnFromInterrupt.sp = s.sp + 1 + 1 := rfl
@[simp] theorem State.returnFromInterrupt_pc (s : State) : s.returnFromInterrupt.pc = wordOf (s.readByte (s.sp + 1)) (s.readByte s.sp) := rfl
@[simp] theorem State.returnFromInterrupt_ime (s : State) : s.returnFromInterrupt.ime = true := rfl
@[simp] theorem State.returnFromInterrupt_mem (s : State) : s.returnFromInterrupt.mem = s.mem := rfl
@[simp] theorem State.returnFromInterrupt_crash (s : State) : s.returnFromInterrupt.crash = s.crash := rfl
@[simp] theorem State.returnFromInterrupt_icount (s : State) : s.returnFromInterrupt.icount = s.icount := rfl
@[simp] theorem State.returnFromInterrupt_serial (s : State) : s.returnFromInterrupt.serial = s.serial := rfl
@[simp] theorem State.returnFromInterrupt_serialEol (s : State) : s.returnFromInterrupt.serialEol = s.serialEol := rfl
@[simp] theorem State.returnFromInterrupt_serialCapacity (s : State) : s.returnFromInterrupt.serialCapacity = s.serialCapacity := rfl
@[simp] theorem State.returnFromInterrupt_readByte (s : State) (k : Word) : s.returnFromInterrupt.readByte k = s.readByte k := rfl

end Sys2Proof.Machine
end

