-- ==== Sys2Proof/Laws/Ops.lean ====
section
/-!
SUPPORT. Sys2Proof/Laws/Ops.lean: one lemma per shared operation that says what it can do: the stack, the hook of a store to
0xFF0F with interrupt entry, the serial step, and what follows Execute.
-/

namespace Sys2Proof.Machine

/-! ### The stack -/

/-- `Push16` is two plain stores below SP, the high byte at the higher address (R137). -/
theorem State.push16_eq (s : State) (v : Word) : s.push16 v =
    (({ s with sp := s.sp - 1 - 1 } : State).storeByte (s.sp - 1) (hiByte v)).storeByte (s.sp - 1 - 1) (loByte v) := rfl

/-! ### The hook and interrupt entry -/

/-- A store through a memory descriptor away from 0xFF0F is the plain store (R111). -/
theorem State.write8_mem_ne (s : State) {a : Word} (v : Byte) (h : a ≠ ifAddr) :
    s.write8 (.mem a) v = .done (s.storeByte a v) := if_neg h

/-- A store to 0xFF0F without dispatch is the plain store (R266). -/
theorem State.write8_if_store (s : State) (v : Byte) (h : s.dispatches v = false) :
    s.write8 (.mem ifAddr) v = .done (s.storeByte ifAddr v) := by
  simp [State.write8, State.writeIF, h]

/-- A store to 0xFF0F that dispatches a value with a vector is interrupt entry (R266, R268). -/
theorem State.write8_if_enter (s : State) {v : Byte} {vector : Word} (h : s.dispatches v = true)
    (hv : interruptVector v = some vector) :
    s.write8 (.mem ifAddr) v =
      .done ((((s.storeByte ifAddr 0).setIme false).push16 s.pc).setPc vector) := by
  simp only [State.write8, State.writeIF, State.enterInterrupt, h, hv, if_true]
  rfl

/-- A store to 0xFF0F that dispatches a value without a vector raises the fatal combination with PC not assigned (R264). -/
theorem State.write8_if_raise (s : State) {v : Byte} (h : s.dispatches v = true) (hv : interruptVector v = none) :
    s.write8 (.mem ifAddr) v =
      .raise .badInterruptCombination (((s.storeByte ifAddr 0).setIme false).push16 s.pc) := by
  simp only [State.write8, State.writeIF, State.enterInterrupt, h, hv, if_true]
  rfl

/-! ### The serial link -/

/-- `SerialPush` refuses on a full buffer and changes nothing (R282). -/
theorem State.serialPush_full (s : State) (b : Byte) (h : s.serial.length ≥ s.serialCapacity - 1) :
    s.serialPush b = (false, s) := if_pos h

/-- `SerialPush` appends while there is room (R282). -/
theorem State.serialPush_room (s : State) (b : Byte) (h : s.serial.length < s.serialCapacity - 1) :
    s.serialPush b = (true, { s with serial := s.serial ++ [b], serialEol := b == newline }) :=
  if_neg (Nat.not_le.mpr h)

/-- What the serial step can do: nothing; mark the transfer done; or also append SB (R281, R282). -/
theorem State.serialStep_cases (s : State) :
    (s.readByte scAddr ≠ serialStart ∧ s.serialStep = s) ∨
    (s.readByte scAddr = serialStart ∧ s.serial.length ≥ s.serialCapacity - 1 ∧
      s.serialStep = s.storeByte scAddr serialDone) ∨
    (s.readByte scAddr = serialStart ∧ s.serial.length < s.serialCapacity - 1 ∧
      s.serialStep = ({ s with
        serial := s.serial ++ [s.readByte sbAddr]
        serialEol := s.readByte sbAddr == newline } : State).storeByte scAddr serialDone) := by
  by_cases h : s.readByte scAddr = serialStart
  · by_cases hc : s.serial.length ≥ s.serialCapacity - 1
    · exact .inr (.inl ⟨h, hc, by simp only [State.serialStep, if_pos h, State.serialPush_full _ _ hc]⟩)
    · exact .inr (.inr ⟨h, Nat.lt_of_not_le hc, by
        simp only [State.serialStep, if_pos h, State.serialPush_room _ _ (Nat.lt_of_not_le hc)]⟩)
  · exact .inl ⟨h, if_neg h⟩

@[simp] theorem State.serialStep_af (s : State) : s.serialStep.af = s.af := by
  obtain ⟨_, h⟩ | ⟨_, _, h⟩ | ⟨_, _, h⟩ := s.serialStep_cases <;> rw [h] <;> rfl

@[simp] theorem State.serialStep_bc (s : State) : s.serialStep.bc = s.bc := by
  obtain ⟨_, h⟩ | ⟨_, _, h⟩ | ⟨_, _, h⟩ := s.serialStep_cases <;> rw [h] <;> rfl

@[simp] theorem State.serialStep_de (s : State) : s.serialStep.de = s.de := by
  obtain ⟨_, h⟩ | ⟨_, _, h⟩ | ⟨_, _, h⟩ := s.serialStep_cases <;> rw [h] <;> rfl

@[simp] theorem State.serialStep_hl (s : State) : s.serialStep.hl = s.hl := by
  obtain ⟨_, h⟩ | ⟨_, _, h⟩ | ⟨_, _, h⟩ := s.serialStep_cases <;> rw [h] <;> rfl

@[simp] theorem State.serialStep_sp (s : State) : s.serialStep.sp = s.sp := by
  obtain ⟨_, h⟩ | ⟨_, _, h⟩ | ⟨_, _, h⟩ := s.serialStep_cases <;> rw [h] <;> rfl

@[simp] theorem State.serialStep_pc (s : State) : s.serialStep.pc = s.pc := by
  obtain ⟨_, h⟩ | ⟨_, _, h⟩ | ⟨_, _, h⟩ := s.serialStep_cases <;> rw [h] <;> rfl

@[simp] theorem State.serialStep_ime (s : State) : s.serialStep.ime = s.ime := by
  obtain ⟨_, h⟩ | ⟨_, _, h⟩ | ⟨_, _, h⟩ := s.serialStep_cases <;> rw [h] <;> rfl

@[simp] theorem State.serialStep_crash (s : State) : s.serialStep.crash = s.crash := by
  obtain ⟨_, h⟩ | ⟨_, _, h⟩ | ⟨_, _, h⟩ := s.serialStep_cases <;> rw [h] <;> rfl

@[simp] theorem State.serialStep_icount (s : State) : s.serialStep.icount = s.icount := by
  obtain ⟨_, h⟩ | ⟨_, _, h⟩ | ⟨_, _, h⟩ := s.serialStep_cases <;> rw [h] <;> rfl

@[simp] theorem State.serialStep_serialCapacity (s : State) : s.serialStep.serialCapacity = s.serialCapacity := by
  obtain ⟨_, h⟩ | ⟨_, _, h⟩ | ⟨_, _, h⟩ := s.serialStep_cases <;> rw [h] <;> rfl

end Sys2Proof.Machine
end

