-- ==== Sys2Proof/Laws/Exec.lean ====
section
/-!
SUPPORT. Sys2Proof/Laws/Exec.lean: what an instruction and a step can do, said once: every body makes only the updates of
`Updates`, so that an invariant of the step is an induction over seven updates and not over 512 instructions.
-/

namespace Sys2Proof.Machine

/-! ### What a body can do to the state -/

/-- `t` comes from `s` by updates an instruction body may make: a register, the flags, PC, SP, IME, or a plain store. No
update touches CRASH, ICOUNT or the serial state (R41 to R43). -/
inductive Updates : State → State → Prop where
  | refl (s : State) : Updates s s
  | reg8 {s t : State} (n : Reg8) (v : Byte) (h : Updates s t) : Updates s (t.setReg8 n v)
  | reg16 {s t : State} (n : Reg16) (v : Word) (h : Updates s t) : Updates s (t.setReg16 n v)
  | flags {s t : State} (z n hc c : Bool) (h : Updates s t) : Updates s (t.setFlags z n hc c)
  | pc {s t : State} (v : Word) (h : Updates s t) : Updates s (t.setPc v)
  | ime {s t : State} (v : Bool) (h : Updates s t) : Updates s (t.setIme v)
  | store {s t : State} (a : Word) (v : Byte) (h : Updates s t) : Updates s (t.storeByte a v)

/-- The state a body's effect leaves, raised or not. -/
def Effect.state (e : Effect) : State :=
  match e with
  | .done s => s
  | .raise _ s => s

theorem Updates.sp {s t : State} (v : Word) (h : Updates s t) : Updates s { t with sp := v } := h.reg16 .sp v

theorem Updates.advance {s t : State} (n : Word) (h : Updates s t) : Updates s (t.advance n) := h.pc _

theorem Updates.storeWord {s t : State} (a v : Word) (h : Updates s t) : Updates s (t.storeWord a v) :=
  (h.store _ _).store _ _

theorem Updates.push8 {s t : State} (v : Byte) (h : Updates s t) : Updates s (t.push8 v) :=
  (h.sp (t.sp - 1)).store _ _

theorem Updates.push16 {s t : State} (v : Word) (h : Updates s t) : Updates s (t.push16 v) := (h.push8 _).push8 _

theorem Updates.pop16 {s t : State} (h : Updates s t) : Updates s t.pop16.2 := h.sp (t.sp + 1 + 1)

theorem Updates.resolve {s t : State} (m : Mode) (h : Updates s t) : Updates s (t.resolve m).2 := by
  cases m <;> first | exact h | exact h.advance _

theorem Updates.write16 {s t : State} (d : Desc) (v : Word) (h : Updates s t) : Updates s (t.write16 d v) := by
  cases d <;> first | exact h | exact h.reg16 _ _ | exact h.storeWord _ _

theorem Updates.writeIF {s t : State} (v : Byte) (h : Updates s t) : Updates s (t.writeIF v).state := by
  have entry : Updates s (t.enterInterrupt v).state := by
    unfold State.enterInterrupt
    have saved := (((h.store ifAddr 0).ime false).push8 (hiByte t.pc)).push8 (loByte t.pc)
    cases interruptVector v with
    | some vector => exact saved.pc vector
    | none => exact saved
  unfold State.writeIF
  split
  · exact entry
  · exact h.store _ _

theorem Updates.write8 {s t : State} (d : Desc) (v : Byte) (h : Updates s t) : Updates s (t.write8 d v).state := by
  cases d with
  | reg8 n => exact h.reg8 n v
  | mem a =>
    show Updates s (if a = ifAddr then t.writeIF v else .done (t.storeByte a v)).state
    split
    · exact h.writeIF v
    · exact h.store a v
  | none => exact h
  | reg16 n => exact h
  | imm8 v => exact h
  | imm16 v => exact h

theorem Updates.andThen {s : State} {e : Effect} {rest : State → Effect} (h : Updates s e.state)
    (hr : ∀ t, Updates s t → Updates s (rest t).state) : Updates s (e.andThen rest).state := by
  cases e with
  | done t => exact hr t h
  | raise cause t => exact h

/-- A body that makes no other update than these. -/
def Body.Sound (body : Body) : Prop := ∀ (src dst : Desc) (s : State), Updates s (body src dst s).state

section
open Updates
@[simp] theorem nopBody_sound : Body.Sound nopBody := fun _ _ s => refl s
@[simp] theorem diBody_sound : Body.Sound diBody := fun _ _ s => (refl s).ime _
@[simp] theorem eiBody_sound : Body.Sound eiBody := fun _ _ s => (refl s).ime _
@[simp] theorem ld8Body_sound : Body.Sound ld8Body := fun _ _ s => (refl s).write8 _ _
@[simp] theorem ldiBody_sound : Body.Sound ldiBody :=
  fun _ _ s => ((refl s).write8 _ _).andThen fun t h => (h.reg16 .hl _ : Updates s (t.setReg16 .hl _))
@[simp] theorem lddBody_sound : Body.Sound lddBody :=
  fun _ _ s => ((refl s).write8 _ _).andThen fun t h => (h.reg16 .hl _ : Updates s (t.setReg16 .hl _))
@[simp] theorem ld16Body_sound : Body.Sound ld16Body := fun _ _ s => (refl s).write16 _ _
@[simp] theorem ldHlSpBody_sound : Body.Sound ldHlSpBody := fun _ _ s => ((refl s).write16 _ _).flags _ _ _ _
@[simp] theorem pushBody_sound : Body.Sound pushBody := fun _ _ s => (refl s).push16 _
@[simp] theorem popBody_sound : Body.Sound popBody := fun _ _ s => (refl s).pop16.write16 _ _
theorem writeAlu_sound (dst : Desc) (out : Alu8) (s : State) : Updates s (writeAlu dst out s).state :=
  ((refl s).flags _ _ _ _).write8 _ _
@[simp] theorem addBody_sound : Body.Sound addBody := fun _ _ s => writeAlu_sound _ _ s
@[simp] theorem adcBody_sound : Body.Sound adcBody := fun _ _ s => writeAlu_sound _ _ s
@[simp] theorem subBody_sound : Body.Sound subBody := fun _ _ s => writeAlu_sound _ _ s
@[simp] theorem sbcBody_sound : Body.Sound sbcBody := fun _ _ s => writeAlu_sound _ _ s
@[simp] theorem andBody_sound : Body.Sound andBody := fun _ _ s => writeAlu_sound _ _ s
@[simp] theorem xorBody_sound : Body.Sound xorBody := fun _ _ s => writeAlu_sound _ _ s
@[simp] theorem orBody_sound : Body.Sound orBody := fun _ _ s => writeAlu_sound _ _ s
@[simp] theorem cpBody_sound : Body.Sound cpBody := fun _ _ s => (refl s).flags _ _ _ _
@[simp] theorem incBody_sound : Body.Sound incBody := fun _ _ s => ((refl s).flags _ _ _ _).write8 _ _
@[simp] theorem decBody_sound : Body.Sound decBody := fun _ _ s => ((refl s).flags _ _ _ _).write8 _ _
@[simp] theorem daaBody_sound : Body.Sound daaBody := fun _ _ s => ((refl s).flags _ _ _ _).write8 _ _
@[simp] theorem cplBody_sound : Body.Sound cplBody := fun _ _ s => ((refl s).flags _ _ _ _).write8 _ _
@[simp] theorem scfBody_sound : Body.Sound scfBody := fun _ _ s => (refl s).flags _ _ _ _
@[simp] theorem ccfBody_sound : Body.Sound ccfBody := fun _ _ s => (refl s).flags _ _ _ _
@[simp] theorem addHlBody_sound : Body.Sound addHlBody := fun _ _ s => ((refl s).write16 _ _).flags _ _ _ _
@[simp] theorem inc16Body_sound : Body.Sound inc16Body := fun _ _ s => (refl s).write16 _ _
@[simp] theorem dec16Body_sound : Body.Sound dec16Body := fun _ _ s => (refl s).write16 _ _
@[simp] theorem addSpBody_sound : Body.Sound addSpBody := fun _ _ s => ((refl s).write16 _ _).flags _ _ _ _
@[simp] theorem rlcaBody_sound : Body.Sound rlcaBody := fun _ _ s => ((refl s).flags _ _ _ _).write8 _ _
@[simp] theorem rrcaBody_sound : Body.Sound rrcaBody := fun _ _ s => ((refl s).flags _ _ _ _).write8 _ _
@[simp] theorem rlaBody_sound : Body.Sound rlaBody := fun _ _ s => ((refl s).flags _ _ _ _).write8 _ _
@[simp] theorem rraBody_sound : Body.Sound rraBody := fun _ _ s => ((refl s).flags _ _ _ _).write8 _ _
@[simp] theorem rotBody_sound (f : Byte → Bool → Byte × Bool) : Body.Sound (rotBody f) :=
  fun _ _ s => ((refl s).flags _ _ _ _).write8 _ _
@[simp] theorem bitBody_sound (b : Nat) : Body.Sound (bitBody b) := fun _ _ s => (refl s).flags _ _ _ _
@[simp] theorem resBody_sound (b : Nat) : Body.Sound (resBody b) := fun _ _ s => (refl s).write8 _ _
@[simp] theorem setBody_sound (b : Nat) : Body.Sound (setBody b) := fun _ _ s => (refl s).write8 _ _
@[simp] theorem jpBody_sound : Body.Sound jpBody := fun _ _ s => (refl s).pc _
@[simp] theorem jrBody_sound : Body.Sound jrBody := fun _ _ s => (refl s).pc _
@[simp] theorem callBody_sound : Body.Sound callBody := fun _ _ s => ((refl s).push16 _).pc _
@[simp] theorem retBody_sound : Body.Sound retBody := fun _ _ s => (refl s).pop16.pc _
@[simp] theorem retiBody_sound : Body.Sound retiBody := fun _ _ s => ((refl s).pop16.pc _).ime _
@[simp] theorem rstBody_sound (n : Word) : Body.Sound (rstBody n) := fun _ _ s => ((refl s).push16 _).pc _
theorem Body.Sound.guarded {body : Body} (p : State → Bool) (h : Body.Sound body) :
    Body.Sound fun src dst s => if p s then body src dst s else .done s := by
  intro src dst s
  show Updates s (if p s then body src dst s else .done s).state
  split
  · exact h src dst s
  · exact refl s
@[simp] theorem jpCondBody_sound (cc : Cond) : Body.Sound (jpCondBody cc) := jpBody_sound.guarded fun s => s.holds cc
@[simp] theorem jrCondBody_sound (cc : Cond) : Body.Sound (jrCondBody cc) := jrBody_sound.guarded fun s => s.holds cc
@[simp] theorem callCondBody_sound (cc : Cond) : Body.Sound (callCondBody cc) :=
  callBody_sound.guarded fun s => s.holds cc
@[simp] theorem retCondBody_sound (cc : Cond) : Body.Sound (retCondBody cc) := retBody_sound.guarded fun s => s.holds cc
@[simp] theorem extendedBody_sound (op : Byte) : Body.Sound (extendedBody op) := by
  unfold extendedBody
  split <;> simp
end

/-! ### What a body can raise -/

/-- The only fatal condition a store through a descriptor raises, with PC not assigned (R264). -/
theorem State.write8_raise {s t : State} {d : Desc} {v : Byte} {cause : CrashCause}
    (h : s.write8 d v = .raise cause t) : cause = .badInterruptCombination ∧ t.pc = s.pc := by
  cases d with
  | mem a =>
    by_cases ha : a = ifAddr
    · subst ha
      cases hd : s.dispatches v with
      | false => rw [State.write8_if_store s v hd] at h; cases h
      | true =>
        cases hv : interruptVector v with
        | some vector => rw [State.write8_if_enter s hd hv] at h; cases h
        | none => rw [State.write8_if_raise s hd hv] at h; cases h; exact ⟨rfl, rfl⟩
    · rw [State.write8_mem_ne s v ha] at h; cases h
  | none => cases h
  | reg8 n => cases h
  | reg16 n => cases h
  | imm8 v => cases h
  | imm16 v => cases h

/-- A body that raises only the fatal combination, and leaves PC as it found it then. -/
def Body.RaisesInPlace (body : Body) : Prop :=
  ∀ (src dst : Desc) (s t : State) (cause : CrashCause), body src dst s = .raise cause t →
    cause = .badInterruptCombination ∧ t.pc = s.pc

theorem Effect.andThen_raise {e : Effect} {f : State → State} {t : State} {cause : CrashCause}
    (h : (e.andThen fun s => .done (f s)) = .raise cause t) : e = .raise cause t := by
  cases e with
  | done s => cases h
  | raise c s => exact h

/-- The same with the flags written before the store (D19). -/
theorem State.write8_raise_flags {s t : State} {z n hc c : Bool} {d : Desc} {v : Byte} {cause : CrashCause}
    (h : (s.setFlags z n hc c).write8 d v = .raise cause t) : cause = .badInterruptCombination ∧ t.pc = s.pc :=
  let ⟨hcause, hpc⟩ := State.write8_raise h
  ⟨hcause, hpc⟩

@[simp] theorem ld8Body_raises : Body.RaisesInPlace ld8Body := fun _ _ _ _ _ h => State.write8_raise h
@[simp] theorem ldiBody_raises : Body.RaisesInPlace ldiBody :=
  fun _ _ _ _ _ h => State.write8_raise (Effect.andThen_raise h)
@[simp] theorem lddBody_raises : Body.RaisesInPlace lddBody :=
  fun _ _ _ _ _ h => State.write8_raise (Effect.andThen_raise h)
@[simp] theorem addBody_raises : Body.RaisesInPlace addBody := fun _ _ _ _ _ h => State.write8_raise_flags h
@[simp] theorem adcBody_raises : Body.RaisesInPlace adcBody := fun _ _ _ _ _ h => State.write8_raise_flags h
@[simp] theorem subBody_raises : Body.RaisesInPlace subBody := fun _ _ _ _ _ h => State.write8_raise_flags h
@[simp] theorem sbcBody_raises : Body.RaisesInPlace sbcBody := fun _ _ _ _ _ h => State.write8_raise_flags h
@[simp] theorem andBody_raises : Body.RaisesInPlace andBody := fun _ _ _ _ _ h => State.write8_raise_flags h
@[simp] theorem xorBody_raises : Body.RaisesInPlace xorBody := fun _ _ _ _ _ h => State.write8_raise_flags h
@[simp] theorem orBody_raises : Body.RaisesInPlace orBody := fun _ _ _ _ _ h => State.write8_raise_flags h
@[simp] theorem cpBody_raises : Body.RaisesInPlace cpBody := fun _ _ _ _ _ h => nomatch h
@[simp] theorem incBody_raises : Body.RaisesInPlace incBody := fun _ _ _ _ _ h => State.write8_raise_flags h
@[simp] theorem decBody_raises : Body.RaisesInPlace decBody := fun _ _ _ _ _ h => State.write8_raise_flags h
@[simp] theorem daaBody_raises : Body.RaisesInPlace daaBody := fun _ _ _ _ _ h => State.write8_raise_flags h
@[simp] theorem cplBody_raises : Body.RaisesInPlace cplBody := fun _ _ _ _ _ h => State.write8_raise_flags h
@[simp] theorem rotBody_raises (f : Byte → Bool → Byte × Bool) : Body.RaisesInPlace (rotBody f) :=
  fun _ _ _ _ _ h => State.write8_raise_flags h
@[simp] theorem rlcaBody_raises : Body.RaisesInPlace rlcaBody := fun _ _ _ _ _ h => State.write8_raise_flags h
@[simp] theorem rrcaBody_raises : Body.RaisesInPlace rrcaBody := fun _ _ _ _ _ h => State.write8_raise_flags h
@[simp] theorem rlaBody_raises : Body.RaisesInPlace rlaBody := fun _ _ _ _ _ h => State.write8_raise_flags h
@[simp] theorem rraBody_raises : Body.RaisesInPlace rraBody := fun _ _ _ _ _ h => State.write8_raise_flags h
@[simp] theorem resBody_raises (b : Nat) : Body.RaisesInPlace (resBody b) := fun _ _ _ _ _ h => State.write8_raise h
@[simp] theorem setBody_raises (b : Nat) : Body.RaisesInPlace (setBody b) := fun _ _ _ _ _ h => State.write8_raise h
@[simp] theorem nopBody_raises : Body.RaisesInPlace nopBody := fun _ _ _ _ _ h => nomatch h
@[simp] theorem diBody_raises : Body.RaisesInPlace diBody := fun _ _ _ _ _ h => nomatch h
@[simp] theorem eiBody_raises : Body.RaisesInPlace eiBody := fun _ _ _ _ _ h => nomatch h
@[simp] theorem ld16Body_raises : Body.RaisesInPlace ld16Body := fun _ _ _ _ _ h => nomatch h
@[simp] theorem ldHlSpBody_raises : Body.RaisesInPlace ldHlSpBody := fun _ _ _ _ _ h => nomatch h
@[simp] theorem pushBody_raises : Body.RaisesInPlace pushBody := fun _ _ _ _ _ h => nomatch h
@[simp] theorem popBody_raises : Body.RaisesInPlace popBody := fun _ _ _ _ _ h => nomatch h
@[simp] theorem scfBody_raises : Body.RaisesInPlace scfBody := fun _ _ _ _ _ h => nomatch h
@[simp] theorem ccfBody_raises : Body.RaisesInPlace ccfBody := fun _ _ _ _ _ h => nomatch h
@[simp] theorem addHlBody_raises : Body.RaisesInPlace addHlBody := fun _ _ _ _ _ h => nomatch h
@[simp] theorem inc16Body_raises : Body.RaisesInPlace inc16Body := fun _ _ _ _ _ h => nomatch h
@[simp] theorem dec16Body_raises : Body.RaisesInPlace dec16Body := fun _ _ _ _ _ h => nomatch h
@[simp] theorem addSpBody_raises : Body.RaisesInPlace addSpBody := fun _ _ _ _ _ h => nomatch h
@[simp] theorem jpBody_raises : Body.RaisesInPlace jpBody := fun _ _ _ _ _ h => nomatch h
@[simp] theorem jrBody_raises : Body.RaisesInPlace jrBody := fun _ _ _ _ _ h => nomatch h
@[simp] theorem callBody_raises : Body.RaisesInPlace callBody := fun _ _ _ _ _ h => nomatch h
@[simp] theorem retBody_raises : Body.RaisesInPlace retBody := fun _ _ _ _ _ h => nomatch h
@[simp] theorem retiBody_raises : Body.RaisesInPlace retiBody := fun _ _ _ _ _ h => nomatch h
@[simp] theorem bitBody_raises (b : Nat) : Body.RaisesInPlace (bitBody b) := fun _ _ _ _ _ h => nomatch h
@[simp] theorem rstBody_raises (n : Word) : Body.RaisesInPlace (rstBody n) := fun _ _ _ _ _ h => nomatch h

theorem Body.RaisesInPlace.guarded {body : Body} (p : State → Bool) (h : Body.RaisesInPlace body) :
    Body.RaisesInPlace fun src dst s => if p s then body src dst s else .done s := by
  intro src dst s t cause hr
  cases hp : p s with
  | true => exact h src dst s t cause (by simpa [hp] using hr)
  | false => simp [hp] at hr

@[simp] theorem jpCondBody_raises (cc : Cond) : Body.RaisesInPlace (jpCondBody cc) :=
  jpBody_raises.guarded fun s => s.holds cc
@[simp] theorem jrCondBody_raises (cc : Cond) : Body.RaisesInPlace (jrCondBody cc) :=
  jrBody_raises.guarded fun s => s.holds cc
@[simp] theorem callCondBody_raises (cc : Cond) : Body.RaisesInPlace (callCondBody cc) :=
  callBody_raises.guarded fun s => s.holds cc
@[simp] theorem retCondBody_raises (cc : Cond) : Body.RaisesInPlace (retCondBody cc) :=
  retBody_raises.guarded fun s => s.holds cc

/-! ### What a table row and an instruction can do -/

/-- How many operand bytes a mode consumes (R101 to R107). -/
def Mode.bytes (m : Mode) : Word :=
  match m with
  | .none => 0
  | .d8 _ => 1
  | .a8 _ => 1
  | .d16 _ => 2
  | .a16 _ => 2
  | .r8 _ => 0
  | .r16 _ => 0
  | .indBC => 0
  | .indDE => 0
  | .indHL => 0
  | .indC => 0

theorem State.resolve_pc (s : State) (m : Mode) : (s.resolve m).2.pc = s.pc + m.bytes := by
  cases m <;> simp [State.resolve, Mode.bytes, State.advance]

theorem Updates.trans {s t u : State} (hst : Updates s t) (htu : Updates t u) : Updates s u := by
  induction htu with
  | refl => exact hst
  | reg8 n v _ ih => exact ih.reg8 n v
  | reg16 n v _ ih => exact ih.reg16 n v
  | flags z n hc c _ ih => exact ih.flags z n hc c
  | pc v _ ih => exact ih.pc v
  | ime v _ ih => exact ih.ime v
  | store a v _ ih => exact ih.store a v

/-- The thirteen unset entries of the primary table (R88). -/
def Instr.isUnset (i : Instr) : Bool :=
  match i with
  | .stop => true
  | .halt => true
  | .illegal_D3 => true
  | .illegal_DB => true
  | .illegal_DD => true
  | .illegal_E3 => true
  | .illegal_E4 => true
  | .illegal_EB => true
  | .illegal_EC => true
  | .illegal_ED => true
  | .illegal_F4 => true
  | .illegal_FC => true
  | .illegal_FD => true
  | _ => false

/-- What an instruction `i` can answer at `s`: it completes after some updates; it is an unset entry; or it raised the fatal
combination after some updates, with PC at the next sequential instruction. -/
inductive Answers (i : Instr) (s : State) : State → Prop where
  | completes {u : State} (h : Updates s u) : Answers i s u
  | unset (hi : Instr.isUnset i = true) : Answers i s (s.enterCrashed .unknownOpcode i.opcode)
  | raises {u : State} (h : Updates s u) (hpc : u.pc = s.pc + BitVec.ofNat 16 i.size) :
      Answers i s (u.enterCrashed .badInterruptCombination i.opcode)

/-- What one table row can do. -/
theorem runRow_answers {i : Instr} {size : Word} {op : Byte} {src dst : Mode} {body : Body} {s t : State}
    (hb : body.Sound) (hr : body.RaisesInPlace) (h : runRow size op src dst body s = .next t) (hop : op = i.opcode)
    (hsize : size + src.bytes + dst.bytes = BitVec.ofNat 16 i.size) : Answers i s t := by
  subst hop
  have hu := ((Updates.refl s).advance size).resolve src |>.resolve dst
  have hpc : (((s.advance size).resolve src).2.resolve dst).2.pc = s.pc + (size + src.bytes + dst.bytes) := by
    rw [State.resolve_pc, State.resolve_pc]
    show s.pc + size + src.bytes + dst.bytes = _
    ac_rfl
  simp only [runRow] at h
  generalize ((s.advance size).resolve src) = p at h hu hpc
  generalize p.2.resolve dst = q at h hu hpc
  have hs := hu.trans (hb p.1 q.1 q.2)
  cases he : body p.1 q.1 q.2 with
  | done u =>
    rw [he] at h hs
    obtain rfl := Host.Outcome.next.inj h
    exact .completes hs
  | raise cause u =>
    rw [he] at h hs
    obtain rfl := Host.Outcome.next.inj h
    obtain ⟨rfl, hup⟩ := hr _ _ _ _ _ he
    exact .raises hs (hup.trans (hpc.trans (by rw [hsize])))

/-- What an instruction can do. Every rule about all instructions that is not about one register rests on this one case
analysis. -/
theorem exec_answers {i : Instr} {s t : State} (hi : i.wf = true) (h : exec i s = .next t) :
    Answers i s t := by
  cases i <;> dsimp only [exec] at h <;> first
    | exact runRow_answers (by simp) (by simp) h rfl rfl
    | (obtain rfl := Host.Outcome.next.inj h; exact .unset rfl)
    | exact absurd hi Bool.false_ne_true

/-- The end of a body is always a next state (R115). -/
theorem Effect.finish_next (e : Effect) (op : Byte) : ∃ t, e.finish op = .next t := by
  cases e <;> exact ⟨_, rfl⟩

/-- A Crashed state steps to itself (R118). -/
theorem step_crashed {s : State} (h : s.crash.isSome = true) : step s = .next s := if_pos h

/-- A step from a state that is not Crashed is Execute and then what follows it (R115). -/
theorem step_of_exec {s t : State} (hs : s.crash = none) (h : exec s.fetchInstr s = .next t) :
    step s = .next (t.retire s.pc s.fetchOpcode) := by
  unfold step
  rw [hs, h]
  rfl

/-- What follows Execute: nothing after a crash; the serial step and a stall; or the serial step and one more counted
instruction (R115, R263). -/
theorem State.retire_cases (t : State) (opAddr : Word) (op : Byte) :
    (t.crash ≠ none ∧ t.retire opAddr op = t) ∨
    (t.crash = none ∧ t.pc = opAddr ∧ t.retire opAddr op = t.serialStep.enterCrashed .stalledPC op) ∨
    (t.crash = none ∧ t.pc ≠ opAddr ∧ t.retire opAddr op = { t.serialStep with icount := t.icount + 1 }) := by
  by_cases h : t.crash = none
  · by_cases hp : t.pc = opAddr
    · exact .inr (.inl ⟨h, hp, by simp [State.retire, h, hp]⟩)
    · exact .inr (.inr ⟨h, hp, by simp [State.retire, h, hp]⟩)
  · exact .inl ⟨h, if_pos (by simpa [Option.isSome_iff_ne_none] using h)⟩

end Sys2Proof.Machine
end

