-- ==== Sys2Proof/Tests/Slice0.lean ====
section
/-!
SUPPORT. Sys2Proof/Tests/Slice0.lean: the WellFormed smoke test; words written out from the spec's encodings and what they
decode to; one-step vectors of spec 95_test_vectors.md (their expected results are the spec's own); and, for each
statement with hypotheses, a witness that meets them.
-/

open Sys2Proof Sys2Proof.Machine Sys2Proof.Claims

namespace Sys2Proof.Tests

/-- The reset state over a memory that holds `code` from `pc` on and the listed cells, with PC there (the start state of
95_test_vectors.md). -/
def codeAt (pc : Word) (code : List Byte) (cells : List (Word × Byte)) : State :=
  { State.reset with
    pc := pc
    mem := Memory.loadFrom (cells.foldl (fun m c => Memory.write m c.1.toNat c.2) []) pc.toNat code }

/-- Whether the step at `s` answers a next state of which `p` holds. -/
def onStep (s : State) (p : State → Bool) : Bool :=
  match step s with
  | .next t => p t
  | .fault _ => false
  | .refused _ => false

/-! ### WellFormed, decode, reset -/

/-- The prefix byte alone is ill-formed (R256). -/
theorem test_wf_refuses_prefix : Instr.wf .prefix_CB = false := rfl

/-- One instruction of each kind of operand is well-formed. -/
theorem test_wf_accepts : Instr.wf .nop = true ∧ Instr.wf (.ld_BC_d16 0xFFFF) = true ∧ Instr.wf (.jr_e8 0x80) = true ∧
    Instr.wf .set_7_A = true ∧ Instr.wf .illegal_FD = true := ⟨rfl, rfl, rfl, rfl, rfl⟩

/-- `01 100 011`: `LD H,E`, fields x = 1, y = 4 (H), z = 3 (E) (R82, R85). -/
theorem test_decode_ld_H_E : decode [0b01100011] = .ok (.ld_H_E, []) := rfl

/-- `11 110 000` and the operand byte: `LDH A,(a8)` (R84). -/
theorem test_decode_ldh : decode [0b11110000, 0x44, 0x99] = .ok (.ldh_A_indA8 0x44, [0x99]) := rfl

/-- `00 110 001` and an operand word, low byte first: `LD SP,d16` (R81, R86). -/
theorem test_decode_ld_SP : decode [0b00110001, 0xFE, 0xDF] = .ok (.ld_SP_d16 0xDFFE, []) := rfl

/-- `00 001 000` and an operand word: `LD (a16),SP` (R84). -/
theorem test_decode_ld_a16_SP : decode [0b00001000, 0x0F, 0xFF] = .ok (.ld_indA16_SP 0xFF0F, []) := rfl

/-- `11 11 0101`: `PUSH AF` (R84). -/
theorem test_decode_push_AF : decode [0b11110101] = .ok (.push_AF, []) := rfl

/-- `10 101 110`: `XOR (HL)`, alu index 5, z = 6 (R82, R85). -/
theorem test_decode_xor_HL : decode [0b10101110] = .ok (.xor_indHL, []) := rfl

/-- `11 001 110` and the operand byte: `ADC A,d8` (R85). -/
theorem test_decode_adc_d8 : decode [0b11001110, 0x01] = .ok (.adc_A_d8 0x01, []) := rfl

/-- `00 10 1001`: `ADD HL,HL` (R84). -/
theorem test_decode_add_HL_HL : decode [0b00101001] = .ok (.add_HL_HL, []) := rfl

/-- `CB`, `00 101 001`: `SRA C`, rot index 5 (R83). -/
theorem test_decode_sra_C : decode [0xCB, 0b00101001] = .ok (.sra_C, []) := rfl

/-- `CB`, `11 011 110`: `SET 3,(HL)` (R83). -/
theorem test_decode_set_3_HL : decode [0xCB, 0b11011110] = .ok (.set_3_indHL, []) := rfl

/-- `00 110 000` and the operand byte: `JR NC,e8`, condition index 2 (R82, R85). -/
theorem test_decode_jr_NC : decode [0b00110000, 0xFB] = .ok (.jr_NC_e8 0xFB, []) := rfl

/-- `11 110 111`: `RST 30H` (R84). -/
theorem test_decode_rst_30 : decode [0b11110111] = .ok (.rst_30, []) := rfl

/-- `11 111 011`: `EI`; `11 011 011`: unassigned (R84, R88). -/
theorem test_decode_ei : decode [0b11111011] = .ok (.ei, []) ∧ decode [0b11011011] = .ok (.illegal_DB, []) := ⟨rfl, rfl⟩

/-- Bytes that end before their instruction does hold none. -/
theorem test_decode_short : decode [] = .error .noOpcode ∧ decode [0xCB] = .error .noExtendedOpcode ∧
    decode [0xC3, 0x00] = .error (.noOperand 0xC3) := ⟨rfl, rfl, rfl⟩

/-- Table words, first byte in bits 7 to 0: `LD BC,d16` with a zero operand, and `SWAP A` with its prefix byte. -/
theorem test_table_word : decodeTableWord 8 0x01 = some (.ld_BC_d16 0x0000) ∧
    decodeTableWord 16 0x37CB = some .swap_A ∧ decodeTableWord 24 0x1234FA = some (.ld_A_indA16 0x1234) :=
  ⟨rfl, rfl, rfl⟩

/-- The word placed by `withFetchWord` is what the next step runs (`INC A`, A = 01 after reset). -/
theorem test_with_fetch_word : onStep (State.reset.withFetchWord 8 0x3C) (fun t => t.af == 0x0210 && t.pc == 0x0101) = true := by
  decide +kernel

/-- The reset values of R302. -/
theorem test_reset_values : State.reset.af = 0x01B0 ∧ State.reset.bc = 0x0013 ∧ State.reset.de = 0x00D8 ∧
    State.reset.hl = 0x014D ∧ State.reset.sp = 0xFFFE ∧ State.reset.pc = 0x0100 ∧ State.reset.ime = false :=
  ⟨rfl, rfl, rfl, rfl, rfl, rfl, rfl⟩

/-- A write of what an unlisted byte reads as leaves no entry (the canonical form). -/
theorem test_memory_canonical : Memory.write (Memory.write (Memory.write [] 5 7) 3 9) 5 0 = [(3, 9)] := by decide +kernel

/-! ### Vectors of 95_test_vectors.md -/

/-- Vectors of 95_test_vectors.md for 43_alu8.md, one conjunct each: T4 `INC C`, T76 `INC (HL)`, T77 `DEC B`, T80 `DEC
(HL)`, T81 `DAA`, T82 `DAA`, T88 `CPL`, T89 `SCF`, T90 `CCF`. -/
theorem test_count_and_adjust8 :
    onStep { codeAt 0x0100 [0x0C] [] with bc := 0x12FF, af := 0x0100 }
      (fun t => t.af == 0x01A0 && t.bc == 0x1200 && t.pc == 0x0101 && t.icount == 1) = true ∧
    onStep { codeAt 0x0100 [0x34] [(0xC000, 0xFF)] with hl := 0xC000, af := 0x0100 }
      (fun t => t.af == 0x01A0 && t.pc == 0x0101 && t.readByte 0xC000 == 0x00 && t.icount == 1) = true ∧
    onStep { codeAt 0x0100 [0x05] [] with bc := 0x0013, af := 0x0110 }
      (fun t => t.af == 0x0170 && t.bc == 0xFF13 && t.pc == 0x0101 && t.icount == 1) = true ∧
    onStep { codeAt 0x0100 [0x35] [(0xC000, 0x00)] with hl := 0xC000, af := 0x0100 }
      (fun t => t.af == 0x0160 && t.pc == 0x0101 && t.readByte 0xC000 == 0xFF && t.icount == 1) = true ∧
    onStep { codeAt 0x0100 [0x27] [] with af := 0x7D00 }
      (fun t => t.af == 0x8300 && t.pc == 0x0101 && t.icount == 1) = true ∧
    onStep { codeAt 0x0100 [0x27] [] with af := 0x4B60 }
      (fun t => t.af == 0x4540 && t.pc == 0x0101 && t.icount == 1) = true ∧
    onStep { codeAt 0x0100 [0x2F] [] with af := 0x3580 }
      (fun t => t.af == 0xCAE0 && t.pc == 0x0101 && t.icount == 1) = true ∧
    onStep { codeAt 0x0100 [0x37] [] with af := 0x01E0 }
      (fun t => t.af == 0x0190 && t.pc == 0x0101 && t.icount == 1) = true ∧
    onStep { codeAt 0x0100 [0x3F] [] with af := 0x01F0 }
      (fun t => t.af == 0x0180 && t.pc == 0x0101 && t.icount == 1) = true := by
  decide +kernel

/-- Vectors of 95_test_vectors.md for 43_alu8.md, one conjunct each: T6 `ADD A,d8`, T7 `ADC A,d8`, T58 `SUB B`, T61
`SBC A,B`, T64 `AND B`, T66 `XOR A`, T68 `OR C`, T70 `CP B`. -/
theorem test_alu8 :
    onStep { codeAt 0x0100 [0xC6, 0x01] [] with af := 0xFF00 }
      (fun t => t.af == 0x00B0 && t.pc == 0x0102 && t.icount == 1) = true ∧
    onStep { codeAt 0x0100 [0xCE, 0x00] [] with af := 0x7F10 }
      (fun t => t.af == 0x8020 && t.pc == 0x0102 && t.icount == 1) = true ∧
    onStep { codeAt 0x0100 [0x90] [] with af := 0x0000, bc := 0x0100 }
      (fun t => t.af == 0xFF70 && t.pc == 0x0101 && t.icount == 1) = true ∧
    onStep { codeAt 0x0100 [0x98] [] with af := 0x0010, bc := 0xFF00 }
      (fun t => t.af == 0x00F0 && t.pc == 0x0101 && t.icount == 1) = true ∧
    onStep { codeAt 0x0100 [0xA0] [] with af := 0x5A10, bc := 0x0F00 }
      (fun t => t.af == 0x0A20 && t.pc == 0x0101 && t.icount == 1) = true ∧
    onStep { codeAt 0x0100 [0xAF] [] with af := 0x5AF0 }
      (fun t => t.af == 0x0080 && t.pc == 0x0101 && t.icount == 1) = true ∧
    onStep { codeAt 0x0100 [0xB1] [] with af := 0x00F0, bc := 0x0000 }
      (fun t => t.af == 0x0080 && t.pc == 0x0101 && t.icount == 1) = true ∧
    onStep { codeAt 0x0100 [0xB8] [] with af := 0x3C00, bc := 0x3C00 }
      (fun t => t.af == 0x3CC0 && t.pc == 0x0101 && t.icount == 1) = true := by
  decide +kernel

/-- Vectors of 95_test_vectors.md for 41_load8.md, one conjunct each: T10 `LD B,C`, T12 `LD A,d8`, T13 `LD A,(HL)`,
T15 `LD (HL),B`, T17 `LD (HL),d8`, T18 `LD A,(BC)`, T19 `LD (DE),A`, T20 `LD A,(a16)`, T21 `LD (a16),A`, T22 `LDH
(a8),A`, T23 `LDH A,(a8)`, T24 `LD (C),A`, T25 `LD A,(C)`, T26 `LDI (HL),A`, T27 `LDI A,(HL)`, T28 `LDD (HL),A`, T29
`LDD A,(HL)`, T225 `LDH (0Fh),A`. -/
theorem test_load8 :
    onStep { codeAt 0x0100 [0x41] [] with bc := 0x1234 }
      (fun t => t.bc == 0x3434 && t.pc == 0x0101 && t.icount == 1) = true ∧
    onStep (codeAt 0x0100 [0x3E, 0x7F] [])
      (fun t => t.af == 0x7FB0 && t.pc == 0x0102 && t.icount == 1) = true ∧
    onStep { codeAt 0x0100 [0x7E] [(0xC000, 0x5A)] with hl := 0xC000 }
      (fun t => t.af == 0x5AB0 && t.pc == 0x0101 && t.icount == 1) = true ∧
    onStep { codeAt 0x0100 [0x70] [] with hl := 0xC000, bc := 0xAB13 }
      (fun t => t.pc == 0x0101 && t.readByte 0xC000 == 0xAB && t.icount == 1) = true ∧
    onStep { codeAt 0x0100 [0x36, 0x99] [] with hl := 0xC001 }
      (fun t => t.pc == 0x0102 && t.readByte 0xC001 == 0x99 && t.icount == 1) = true ∧
    onStep { codeAt 0x0100 [0x0A] [(0xC002, 0x77)] with bc := 0xC002 }
      (fun t => t.af == 0x77B0 && t.pc == 0x0101 && t.icount == 1) = true ∧
    onStep { codeAt 0x0100 [0x12] [] with de := 0xC003, af := 0x42B0 }
      (fun t => t.pc == 0x0101 && t.readByte 0xC003 == 0x42 && t.icount == 1) = true ∧
    onStep (codeAt 0x0100 [0xFA, 0x34, 0xC2] [(0xC234, 0x6B)])
      (fun t => t.af == 0x6BB0 && t.pc == 0x0103 && t.icount == 1) = true ∧
    onStep { codeAt 0x0100 [0xEA, 0x00, 0x80] [] with af := 0x3CB0 }
      (fun t => t.pc == 0x0103 && t.readByte 0x8000 == 0x3C && t.icount == 1) = true ∧
    onStep { codeAt 0x0100 [0xE0, 0x80] [] with af := 0x55B0 }
      (fun t => t.pc == 0x0102 && t.readByte 0xFF80 == 0x55 && t.icount == 1) = true ∧
    onStep (codeAt 0x0100 [0xF0, 0xFF] [(0xFFFF, 0x1F)])
      (fun t => t.af == 0x1FB0 && t.pc == 0x0102 && t.icount == 1) = true ∧
    onStep { codeAt 0x0100 [0xE2] [] with bc := 0x0081, af := 0x9AB0 }
      (fun t => t.pc == 0x0101 && t.readByte 0xFF81 == 0x9A && t.icount == 1) = true ∧
    onStep { codeAt 0x0100 [0xF2] [(0xFF01, 0x41)] with bc := 0x0001 }
      (fun t => t.af == 0x41B0 && t.pc == 0x0101 && t.icount == 1) = true ∧
    onStep { codeAt 0x0100 [0x22] [] with hl := 0xFFFF, af := 0x1FB0 }
      (fun t => t.hl == 0x0000 && t.pc == 0x0101 && t.readByte 0xFFFF == 0x1F && t.icount == 1) = true ∧
    onStep { codeAt 0x0100 [0x2A] [(0xC0FF, 0x33)] with hl := 0xC0FF }
      (fun t => t.af == 0x33B0 && t.hl == 0xC100 && t.pc == 0x0101 && t.icount == 1) = true ∧
    onStep { codeAt 0x0200 [0x32] [] with hl := 0x0000, af := 0x08B0 }
      (fun t => t.hl == 0xFFFF && t.pc == 0x0201 && t.readByte 0x0000 == 0x08 && t.icount == 1) = true ∧
    onStep { codeAt 0x0100 [0x3A] [(0xC100, 0x44)] with hl := 0xC100 }
      (fun t => t.af == 0x44B0 && t.hl == 0xC0FF && t.pc == 0x0101 && t.icount == 1) = true ∧
    onStep { codeAt 0x0100 [0xE0, 0x0F] [(0xFFFF, 0x05)] with af := 0x05B0, ime := true }
      (fun t => t.sp == 0xFFFC && t.pc == 0x0102 && t.ime == false && t.readByte 0xFFFC == 0x02 && t.readByte 0xFFFD == 0x01 && t.crash == some ⟨.badInterruptCombination, 0xE0, 0⟩) = true := by
  decide +kernel

/-- Vectors of 95_test_vectors.md for 42_load16_stack.md, one conjunct each: T30 `LD BC,d16`, T32 `LD (a16),SP`, T35
`LD SP,HL`, T36 `LD HL,SP+e8`, T39 `PUSH BC`, T41 `POP DE`, T42 `POP AF`. -/
theorem test_load16_and_stack :
    onStep (codeAt 0x0100 [0x01, 0x34, 0x12] [])
      (fun t => t.bc == 0x1234 && t.pc == 0x0103 && t.icount == 1) = true ∧
    onStep { codeAt 0x0100 [0x08, 0x00, 0xC1] [] with sp := 0xFFF8 }
      (fun t => t.pc == 0x0103 && t.readByte 0xC100 == 0xF8 && t.readByte 0xC101 == 0xFF && t.icount == 1) = true ∧
    onStep { codeAt 0x0100 [0xF9] [] with hl := 0xC123 }
      (fun t => t.sp == 0xC123 && t.pc == 0x0101 && t.icount == 1) = true ∧
    onStep { codeAt 0x0100 [0xF8, 0x02] [] with sp := 0xFFF8, af := 0x01F0 }
      (fun t => t.af == 0x0100 && t.hl == 0xFFFA && t.pc == 0x0102 && t.icount == 1) = true ∧
    onStep { codeAt 0x0100 [0xC5] [] with bc := 0x1234 }
      (fun t => t.sp == 0xFFFC && t.pc == 0x0101 && t.readByte 0xFFFC == 0x34 && t.readByte 0xFFFD == 0x12 && t.icount == 1) = true ∧
    onStep { codeAt 0x0100 [0xD1] [(0xFFFC, 0x34), (0xFFFD, 0x12)] with sp := 0xFFFC }
      (fun t => t.de == 0x1234 && t.sp == 0xFFFE && t.pc == 0x0101 && t.icount == 1) = true ∧
    onStep { codeAt 0x0100 [0xF1] [(0xC000, 0xFF), (0xC001, 0x12)] with sp := 0xC000 }
      (fun t => t.af == 0x12F0 && t.sp == 0xC002 && t.pc == 0x0101 && t.icount == 1) = true := by
  decide +kernel

/-- Vectors of 95_test_vectors.md for 44_alu16.md, one conjunct each: T100 `ADD HL,BC`, T104 `INC BC`, T106 `DEC DE`,
T109 `ADD SP,e8`. -/
theorem test_alu16 :
    onStep { codeAt 0x0100 [0x09] [] with hl := 0x0FFF, bc := 0x0001, af := 0x0180 }
      (fun t => t.af == 0x01A0 && t.hl == 0x1000 && t.pc == 0x0101 && t.icount == 1) = true ∧
    onStep { codeAt 0x0100 [0x03] [] with bc := 0xFFFF, af := 0x0100 }
      (fun t => t.bc == 0x0000 && t.pc == 0x0101 && t.icount == 1) = true ∧
    onStep { codeAt 0x0100 [0x1B] [] with de := 0x0000, af := 0x01F0 }
      (fun t => t.de == 0xFFFF && t.pc == 0x0101 && t.icount == 1) = true ∧
    onStep { codeAt 0x0100 [0xE8, 0xFF] [] with sp := 0x0000, af := 0x01F0 }
      (fun t => t.af == 0x0100 && t.sp == 0xFFFF && t.pc == 0x0102 && t.icount == 1) = true := by
  decide +kernel

/-- Vectors of 95_test_vectors.md for 45_rotate_shift.md, one conjunct each: T120 `RLCA`, T122 `RRCA`, T123 `RLA`,
T125 `RRA`, T127 `RLC B`, T129 `RRC C`, T130 `RL C`, T132 `RR A`, T134 `SLA D`, T136 `SRA A`, T138 `SWAP A`, T140 `SRL
A`. -/
theorem test_rotate_and_shift :
    onStep { codeAt 0x0100 [0x07] [] with af := 0x85F0 }
      (fun t => t.af == 0x0B10 && t.pc == 0x0101 && t.icount == 1) = true ∧
    onStep { codeAt 0x0100 [0x0F] [] with af := 0x0100 }
      (fun t => t.af == 0x8010 && t.pc == 0x0101 && t.icount == 1) = true ∧
    onStep { codeAt 0x0100 [0x17] [] with af := 0x8000 }
      (fun t => t.af == 0x0010 && t.pc == 0x0101 && t.icount == 1) = true ∧
    onStep { codeAt 0x0100 [0x1F] [] with af := 0x0100 }
      (fun t => t.af == 0x0010 && t.pc == 0x0101 && t.icount == 1) = true ∧
    onStep { codeAt 0x0100 [0xCB, 0x00] [] with bc := 0x8513, af := 0x0100 }
      (fun t => t.af == 0x0110 && t.bc == 0x0B13 && t.pc == 0x0102 && t.icount == 1) = true ∧
    onStep { codeAt 0x0100 [0xCB, 0x09] [] with bc := 0x0001, af := 0x0100 }
      (fun t => t.af == 0x0110 && t.bc == 0x0080 && t.pc == 0x0102 && t.icount == 1) = true ∧
    onStep { codeAt 0x0100 [0xCB, 0x11] [] with bc := 0x0080, af := 0x0100 }
      (fun t => t.af == 0x0190 && t.bc == 0x0000 && t.pc == 0x0102 && t.icount == 1) = true ∧
    onStep { codeAt 0x0100 [0xCB, 0x1F] [] with af := 0x0110 }
      (fun t => t.af == 0x8010 && t.pc == 0x0102 && t.icount == 1) = true ∧
    onStep { codeAt 0x0100 [0xCB, 0x22] [] with de := 0x80D8, af := 0x0100 }
      (fun t => t.af == 0x0190 && t.de == 0x00D8 && t.pc == 0x0102 && t.icount == 1) = true ∧
    onStep { codeAt 0x0100 [0xCB, 0x2F] [] with af := 0x8100 }
      (fun t => t.af == 0xC010 && t.pc == 0x0102 && t.icount == 1) = true ∧
    onStep { codeAt 0x0100 [0xCB, 0x37] [] with af := 0xF110 }
      (fun t => t.af == 0x1F00 && t.pc == 0x0102 && t.icount == 1) = true ∧
    onStep { codeAt 0x0100 [0xCB, 0x3F] [] with af := 0x0100 }
      (fun t => t.af == 0x0090 && t.pc == 0x0102 && t.icount == 1) = true := by
  decide +kernel

/-- Vectors of 95_test_vectors.md for 46_bit.md, one conjunct each: T150 `BIT 7,H`, T154 `RES 0,A`, T157 `SET 0,B`,
T235 `RES 0,(HL)`. -/
theorem test_bits :
    onStep { codeAt 0x0100 [0xCB, 0x7C] [] with hl := 0x8000, af := 0x0110 }
      (fun t => t.af == 0x0130 && t.pc == 0x0102 && t.icount == 1) = true ∧
    onStep { codeAt 0x0100 [0xCB, 0x87] [] with af := 0xFFF0 }
      (fun t => t.af == 0xFEF0 && t.pc == 0x0102 && t.icount == 1) = true ∧
    onStep { codeAt 0x0100 [0xCB, 0xC0] [] with bc := 0x0013 }
      (fun t => t.bc == 0x0113 && t.pc == 0x0102 && t.icount == 1) = true ∧
    onStep { codeAt 0x0100 [0xCB, 0x86] [(0xFFFF, 0x01), (0xFF0F, 0x01)] with hl := 0xFF0F, ime := true }
      (fun t => t.sp == 0xFFFC && t.pc == 0x0102 && t.ime == false && t.readByte 0xFF0F == 0x00 && t.readByte 0xFFFC == 0x02 && t.readByte 0xFFFD == 0x01 && t.crash == some ⟨.badInterruptCombination, 0x86, 0⟩) = true := by
  decide +kernel

/-- Vectors of 95_test_vectors.md for 47_control.md, one conjunct each: T170 `JP a16`, T171 `JP Z,a16`, T174 `JP HL`,
T175 `JR e8`, T180 `JR NZ,e8`, T193 `JR e8 (to itself)`, T194 `JP a16 (to itself)`. -/
theorem test_jumps :
    onStep (codeAt 0x0100 [0xC3, 0x50, 0x01] [])
      (fun t => t.pc == 0x0150 && t.icount == 1) = true ∧
    onStep { codeAt 0x0100 [0xCA, 0x00, 0x02] [] with af := 0x0180 }
      (fun t => t.pc == 0x0200 && t.icount == 1) = true ∧
    onStep { codeAt 0x0100 [0xE9] [] with hl := 0x4000 }
      (fun t => t.pc == 0x4000 && t.icount == 1) = true ∧
    onStep (codeAt 0x0100 [0x18, 0x05] [])
      (fun t => t.pc == 0x0107 && t.icount == 1) = true ∧
    onStep { codeAt 0x0109 [0x20, 0xFB] [] with af := 0x0100 }
      (fun t => t.pc == 0x0106 && t.icount == 1) = true ∧
    onStep (codeAt 0x0100 [0x18, 0xFE] [])
      (fun t => t.pc == 0x0100 && t.crash == some ⟨.stalledPC, 0x18, 0⟩) = true ∧
    onStep (codeAt 0x0100 [0xC3, 0x00, 0x01] [])
      (fun t => t.pc == 0x0100 && t.crash == some ⟨.stalledPC, 0xC3, 0⟩) = true := by
  decide +kernel

/-- Vectors of 95_test_vectors.md for 47_control.md, one conjunct each: T183 `CALL a16`, T184 `CALL C,a16`, T187
`RET`, T188 `RET NZ`, T190 `RETI`, T191 `RST 28h`, T195 `RST 00h (at 0x0000)`. -/
theorem test_calls_and_returns :
    onStep { codeAt 0x0107 [0xCD, 0x10, 0x01] [] with sp := 0xD000 }
      (fun t => t.sp == 0xCFFE && t.pc == 0x0110 && t.readByte 0xCFFE == 0x0A && t.readByte 0xCFFF == 0x01 && t.icount == 1) = true ∧
    onStep { codeAt 0x0200 [0xDC, 0x00, 0x03] [] with af := 0x0110 }
      (fun t => t.sp == 0xFFFC && t.pc == 0x0300 && t.readByte 0xFFFC == 0x03 && t.readByte 0xFFFD == 0x02 && t.icount == 1) = true ∧
    onStep { codeAt 0x0112 [0xC9] [(0xCFFE, 0x0A), (0xCFFF, 0x01)] with sp := 0xCFFE }
      (fun t => t.sp == 0xD000 && t.pc == 0x010A && t.icount == 1) = true ∧
    onStep { codeAt 0x0100 [0xC0] [(0xCFFE, 0x0A), (0xCFFF, 0x01)] with af := 0x0180, sp := 0xCFFE }
      (fun t => t.pc == 0x0101 && t.icount == 1) = true ∧
    onStep { codeAt 0x0051 [0xD9] [(0xDFFC, 0x0A), (0xDFFD, 0x01)] with sp := 0xDFFC }
      (fun t => t.sp == 0xDFFE && t.pc == 0x010A && t.ime == true && t.icount == 1) = true ∧
    onStep (codeAt 0x0150 [0xEF] [])
      (fun t => t.sp == 0xFFFC && t.pc == 0x0028 && t.readByte 0xFFFC == 0x51 && t.readByte 0xFFFD == 0x01 && t.icount == 1) = true ∧
    onStep (codeAt 0x0000 [0xC7] [])
      (fun t => t.sp == 0xFFFC && t.pc == 0x0000 && t.readByte 0xFFFC == 0x01 && t.crash == some ⟨.stalledPC, 0xC7, 0⟩) = true := by
  decide +kernel

/-- Vectors of 95_test_vectors.md for 48_system.md, one conjunct each: T200 `NOP`, T202 `DI`, T203 `EI`, T204 `HALT`,
T205 `STOP`, T206 `(unassigned 0xDD)`. -/
theorem test_system :
    onStep (codeAt 0x0100 [0x00] [])
      (fun t => t.pc == 0x0101 && t.icount == 1) = true ∧
    onStep { codeAt 0x0100 [0xF3] [] with ime := true }
      (fun t => t.pc == 0x0101 && t.ime == false && t.icount == 1) = true ∧
    onStep (codeAt 0x0100 [0xFB] [(0xFFFF, 0x04), (0xFF0F, 0x04)])
      (fun t => t.pc == 0x0101 && t.ime == true && t.icount == 1) = true ∧
    onStep (codeAt 0x0200 [0x76] [])
      (fun t => t.pc == 0x0200 && t.crash == some ⟨.unknownOpcode, 0x76, 0⟩) = true ∧
    onStep (codeAt 0x0300 [0x10, 0x00] [])
      (fun t => t.pc == 0x0300 && t.crash == some ⟨.unknownOpcode, 0x10, 0⟩) = true ∧
    onStep (codeAt 0x0150 [0xDD] [])
      (fun t => t.pc == 0x0150 && t.crash == some ⟨.unknownOpcode, 0xDD, 0⟩) = true := by
  decide +kernel

/-! ### Witnesses: for each statement with hypotheses, states and operands that meet them, one per clause -/

theorem witness_DecodeEncodeRoundTrip : Instr.wf (.ld_indA16_A 0xFF0F) = true := rfl

/-- The three ways a step ends: it completes, it stalls (`JR -2`), it crashes in its body (`HALT`). -/
theorem witness_StepRunsDecodedInstruction_completes :
    let s := codeAt 0x0100 [0x00] []
    let t := { s with pc := s.pc + 1 }
    s.crash = none ∧ decode (windowAt s) = .ok (.nop, [0x00, 0x00]) ∧ exec .nop s = .next t ∧ t.crash = none ∧
      t.serialStep.pc ≠ s.pc := ⟨rfl, rfl, rfl, rfl, by decide +kernel⟩

theorem witness_StepRunsDecodedInstruction_stalls :
    let s := codeAt 0x0100 [0x18, 0xFE] []
    s.crash = none ∧ decode (windowAt s) = .ok (.jr_e8 0xFE, [0x00]) ∧ exec (.jr_e8 0xFE) s = .next s ∧
      s.serialStep.pc = s.pc := ⟨rfl, rfl, rfl, by decide +kernel⟩

theorem witness_StepRunsDecodedInstruction_crashes :
    let s := codeAt 0x0100 [0x76] []
    let t := { s with crash := some ⟨.unknownOpcode, 0x76, 0⟩ }
    s.crash = none ∧ decode (windowAt s) = .ok (.halt, [0x00, 0x00]) ∧ exec .halt s = .next t ∧ t.crash ≠ none :=
  ⟨rfl, rfl, rfl, by decide⟩

theorem witness_CrashedStepIsIdentity :
    ({ State.reset with crash := some ⟨.stalledPC, 0x18, 7⟩ } : State).crash ≠ none := by decide

/-- A step that completes and a step that crashes, from states that are not Crashed. -/
theorem witness_StepCountsOrRecordsTheCrash :
    (codeAt 0x0100 [0x00] []).crash = none ∧
    onStep (codeAt 0x0100 [0x00] []) (fun t => t.crash == none && t.icount == 1) = true ∧
    (codeAt 0x0100 [0x10] []).crash = none ∧
    onStep (codeAt 0x0100 [0x10] []) (fun t => t.crash == some ⟨.unknownOpcode, 0x10, 0⟩) = true := by decide +kernel

/-- One crash of each cause; the bad combination is `LDH (0Fh),A` with A = 03, both bits enabled. -/
theorem witness_CrashLeavesPcWhereTheCauseSays :
    onStep (codeAt 0x0100 [0xD3] []) (fun t => t.crash == some ⟨.unknownOpcode, 0xD3, 0⟩ && t.pc == 0x0100) = true ∧
    onStep (codeAt 0x0100 [0x18, 0xFE] []) (fun t => t.crash == some ⟨.stalledPC, 0x18, 0⟩ && t.pc == 0x0100) = true ∧
    onStep { codeAt 0x0100 [0xE0, 0x0F] [(0xFFFF, 0x1F)] with af := 0x0300, ime := true }
      (fun t => t.crash == some ⟨.badInterruptCombination, 0xE0, 0⟩ && t.pc == 0x0102) = true := by decide +kernel

theorem witness_UnsetOpcodesCrash : Instr.halt ∈ unsetInstrs ∧ Instr.illegal_FD ∈ unsetInstrs := by decide

/-- Both sides, and the byte next to an unset one: 0x10 is unset, 0x11 is `LD DE,d16`. -/
theorem witness_UnknownOpcodeExactlyForUnsetBytes :
    (codeAt 0x0100 [0x10] []).readByte 0x0100 ∈
      ([0x10, 0x76, 0xD3, 0xDB, 0xDD, 0xE3, 0xE4, 0xEB, 0xEC, 0xED, 0xF4, 0xFC, 0xFD] : List Byte) ∧
    (codeAt 0x0100 [0x11] []).readByte 0x0100 ∉
      ([0x10, 0x76, 0xD3, 0xDB, 0xDD, 0xE3, 0xE4, 0xEB, 0xEC, 0xED, 0xF4, 0xFC, 0xFD] : List Byte) ∧
    (∃ t, step { codeAt 0x0100 [0xE0, 0x0F] [(0xFFFF, 0x1F)] with af := 0x0300, ime := true } = .next t ∧ t.crash ≠ none) :=
  ⟨by decide +kernel, by decide +kernel, _, rfl, by decide +kernel⟩

/-- The code of one transfer to 0x0100 at 0x0100, and a return address 0x0100 on the stack; F is 0xB0 (Z and C set). -/
def selfTransfer (code : List Byte) : State := codeAt 0x0100 code [(0xFFFE, 0x00), (0xFFFF, 0x01)]

/-- Every form at its own address; `RST 00H` and `RST 38H` at the ends of their targets' range, and `JP` at the top of memory,
where its operand lies across the wrap. -/
theorem witness_TransferToItselfStalls :
    let u : State := { codeAt 0xFFFF [0xC3] [(0x0000, 0xFF), (0x0001, 0xFF)] with pc := 0xFFFF }
    let h : State := { selfTransfer [0xE9] with hl := 0x0100 }
    decode (windowAt (selfTransfer [0xC3, 0x00, 0x01])) = .ok (.jp_a16 0x0100, []) ∧
    decode (windowAt u) = .ok (.jp_a16 u.pc, []) ∧
    (decode (windowAt h) = .ok (.jp_HL, [0x00, 0x00]) ∧ h.hl = h.pc) ∧
    decode (windowAt (selfTransfer [0x18, 0xFE])) = .ok (.jr_e8 0xFE, [0x00]) ∧
    decode (windowAt (selfTransfer [0xCD, 0x00, 0x01])) = .ok (.call_a16 0x0100, []) ∧
    (decode (windowAt (codeAt 0x0000 [0xC7] [])) = .ok (Instr.rst (Idx3.ofCode 0), [0x00, 0x00]) ∧
      BitVec.ofNat 16 (8 * (Idx3.ofCode 0).toNat) = (codeAt 0x0000 [0xC7] []).pc) ∧
    (decode (windowAt (codeAt 0x0038 [0xFF] [])) = .ok (Instr.rst (Idx3.ofCode 7), [0x00, 0x00]) ∧
      BitVec.ofNat 16 (8 * (Idx3.ofCode 7).toNat) = (codeAt 0x0038 [0xFF] []).pc) ∧
    (decode (windowAt (selfTransfer [0xC9])) = .ok (.ret, [0x00, 0x00]) ∧
      stackTop (selfTransfer [0xC9]) = (selfTransfer [0xC9]).pc) ∧
    (decode (windowAt (selfTransfer [0xD9])) = .ok (.reti, [0x00, 0x00]) ∧
      stackTop (selfTransfer [0xD9]) = (selfTransfer [0xD9]).pc) ∧
    (selfTransfer []).crash = none := by decide +kernel

/-- The conditional forms, taken with Z or C, and not taken with NZ or NC. -/
theorem witness_TransferToItselfStalls_conditional :
    let taken (cc : Cond) := condition (selfTransfer []) cc
    taken .z = true ∧ taken .c = true ∧ taken .nz = false ∧ taken .nc = false ∧
    decode (windowAt (selfTransfer [0xCA, 0x00, 0x01])) = .ok (Instr.jpCond .z 0x0100, []) ∧
    decode (windowAt (selfTransfer [0x38, 0xFE])) = .ok (Instr.jrCond .c 0xFE, [0x00]) ∧
    decode (windowAt (selfTransfer [0xDC, 0x00, 0x01])) = .ok (Instr.callCond .c 0x0100, []) ∧
    (decode (windowAt (selfTransfer [0xC8])) = .ok (Instr.retCond .z, [0x00, 0x00]) ∧
      stackTop (selfTransfer [0xC8]) = (selfTransfer [0xC8]).pc) ∧
    decode (windowAt (selfTransfer [0xC2, 0x00, 0x01])) = .ok (Instr.jpCond .nz 0x0100, []) ∧
    decode (windowAt (selfTransfer [0x30, 0xFE])) = .ok (Instr.jrCond .nc 0xFE, [0x00]) ∧
    decode (windowAt (selfTransfer [0xD4, 0x00, 0x01])) = .ok (Instr.callCond .nc 0x0100, []) ∧
    decode (windowAt (selfTransfer [0xC0])) = .ok (Instr.retCond .nz, [0x00, 0x00]) := by decide +kernel

/-- A state whose IME and IE let every single-bit store to 0xFF0F dispatch. -/
def enabled (ie : Byte) : State := { codeAt 0x0100 [] [(0xFFFF, ie)] with ime := true }

/-- That a value has no vector, as a computation on the table. -/
theorem noVector_iff (v : Byte) : (∀ p ∈ vectorTable, p.1 ≠ v) ↔ (vectorTable.all fun p => p.1 != v) = true := by
  simp

/-- Each case of the hook: not enabled in IE, IME 0; each of the five vectors; two bits, none, and a bit above the five. -/
theorem witness_InterruptHook :
    ¬ dispatchable (enabled 0x1E) 0x01 ∧ ¬ dispatchable { enabled 0x1F with ime := false } 0x01 ∧
    (dispatchable (enabled 0x01) 0x01 ∧ ((0x01 : Byte), (0x0040 : Word)) ∈ vectorTable) ∧
    (dispatchable (enabled 0x10) 0x10 ∧ ((0x10 : Byte), (0x0060 : Word)) ∈ vectorTable) ∧
    (dispatchable (enabled 0x03) 0x03 ∧ ∀ p ∈ vectorTable, p.1 ≠ 0x03) ∧
    (dispatchable (enabled 0x00) 0x00 ∧ ∀ p ∈ vectorTable, p.1 ≠ 0x00) ∧
    (dispatchable (enabled 0x20) 0x20 ∧ ∀ p ∈ vectorTable, p.1 ≠ 0x20) := by
  simp only [noVector_iff]
  decide +kernel

/-- The three cases of the serial step, the last two on either side of a full buffer (capacity 4). -/
theorem witness_SerialStepSendsOneByte :
    (codeAt 0x0100 [] [(0xFF02, 0x80)]).readByte 0xFF02 ≠ 0x81 ∧
    (let s := { codeAt 0x0100 [] [(0xFF02, 0x81)] with serialCapacity := 4, serial := [1, 2, 3] }
     s.readByte 0xFF02 = 0x81 ∧ s.serial.length ≥ s.serialCapacity - 1) ∧
    (let s := { codeAt 0x0100 [] [(0xFF02, 0x81)] with serialCapacity := 4, serial := [1, 2] }
     s.readByte 0xFF02 = 0x81 ∧ s.serial.length < s.serialCapacity - 1) := by decide +kernel

theorem witness_StepKeepsMemoryCanonical :
    let s := { codeAt 0x0100 [0x77] [] with hl := 0xFFFF }
    Memory.wf s.mem = true ∧ ∃ t, step s = .next t := ⟨by decide +kernel, _, rfl⟩

theorem witness_StepKeepsFlagsPadded :
    let s := codeAt 0x0100 [0xF1] []
    s.af &&& 0x000F = 0 ∧ ∃ t, step s = .next t := ⟨by decide +kernel, _, rfl⟩

theorem witness_StepKeepsSerialConsistent :
    let s := codeAt 0x0100 [0x00] [(0xFF01, 0x0A), (0xFF02, 0x81)]
    s.serialConsistent = true ∧ ∃ t, step s = .next t := ⟨by decide +kernel, _, rfl⟩

theorem witness_StepAppendsAtMostOneByte : ∃ t, step (codeAt 0x0100 [0x00] [(0xFF01, 0x41), (0xFF02, 0x81)]) = .next t :=
  ⟨_, rfl⟩

/-- IME set by `EI`, cleared by `DI`, by interrupt entry and by the fatal combination, and kept by a push whose high byte
lands on 0xFF0F. -/
theorem witness_ImeChangesOnlyByItsWriters :
    let store (v ie : Byte) : State := { enabled ie with hl := 0xFF0F, bc := wordOf v 0 }
    let push : State := { enabled 0x04 with sp := 0xFF11 }
    (∃ t, exec .ei State.reset = .next t ∧ State.reset.ime = false ∧ t.ime = true) ∧
    (∃ t, exec .di (enabled 0) = .next t ∧ (enabled 0).ime = true ∧ t.ime = false) ∧
    (∃ t, exec .ld_indHL_B (store 0x04 0x04) = .next t ∧ t.ime = false ∧ t.crash = none) ∧
    (∃ t, exec .ld_indHL_B (store 0x05 0x05) = .next t ∧ t.ime = false ∧ t.crash ≠ none) ∧
    (∃ t, exec .push_BC push = .next t ∧ t.ime = true) ∧ 0xFF0F ∈ storedBytes .push_BC push :=
  ⟨⟨_, rfl, rfl, rfl⟩, ⟨_, rfl, rfl, rfl⟩, ⟨_, rfl, by decide +kernel, by decide +kernel⟩,
    ⟨_, rfl, by decide +kernel, by decide +kernel⟩, ⟨_, rfl, rfl⟩, by decide +kernel⟩

theorem witness_UnlistedInstructionsLeaveFlags :
    (∃ t, exec .pop_BC State.reset = .next t) ∧ writesFlags .pop_BC = false ∧ writesFlags .pop_AF = true ∧
    writesFlags .res_0_B = false ∧ writesFlags .bit_7_A = true := ⟨⟨_, rfl⟩, by decide, by decide, by decide, by decide⟩

/-- A push, and the address just above and just below the two bytes it stores. -/
theorem witness_MemoryFrame :
    let s := State.reset
    Instr.wf .push_BC = true ∧ (∃ t, exec .push_BC s = .next t) ∧ s.sp ∉ storedBytes .push_BC s ∧
      s.sp - 3 ∉ storedBytes .push_BC s ∧ s.sp - 2 ∈ storedBytes .push_BC s ∧ storedBytes .cp_B s = [] :=
  ⟨rfl, ⟨_, rfl⟩, by decide +kernel, by decide +kernel, by decide +kernel, rfl⟩

theorem witness_ExecSystemFrame : Instr.wf .stop = true ∧ ∃ t, exec .stop State.reset = .next t := ⟨rfl, _, rfl⟩

theorem witness_ExecCannotReadHostState :
    ∃ t, State.reset.crash = none ∧ exec .inc_A State.reset = .next t ∧ t.crash = none := ⟨_, rfl, rfl, rfl⟩

/-- The last byte of a two-byte image and the first address past it. -/
theorem witness_LoadCopiesTheImage :
    ([0xAA, 0xBB] : List Byte)[(0x0001 : Word).toNat]? = some 0xBB ∧
    ([0xAA, 0xBB] : List Byte).length ≤ (0x0002 : Word).toNat := by decide

theorem witness_CanonicalMemoriesAreExtensional :
    Memory.wf [(0xFFFF, 0x01)] = true ∧ ∀ a : Word, Memory.read [(0xFFFF, 0x01)] a.toNat = Memory.read [(0xFFFF, 0x01)] a.toNat :=
  ⟨by decide, fun _ => rfl⟩

theorem witness_LoadRegisterFromRegister : r8Reg .b = some .b ∧ r8Reg .a = some .a := ⟨rfl, rfl⟩

theorem witness_LoadRegisterFromImmediateOrMemory : r8Reg .h = some .h := rfl

theorem witness_StepRegister : r8Reg .l = some .l := rfl

/-- `LD (HL),B`: the four cases of a store, at 0xFF0E and at 0xFF0F. -/
theorem witness_StoreByteInstructions :
    let at1 (s : State) : State := { s with pc := s.pc + 1 }
    r8Reg .b = some .b ∧ ({ enabled 0x04 with hl := 0xFF0E } : State).hl ≠ 0xFF0F ∧
    (let s := { enabled 0x02 with hl := 0xFF0F, bc := 0x0400 }
     s.hl = 0xFF0F ∧ ¬ dispatchable (at1 s) (r8Value s .b)) ∧
    (let s := { enabled 0x04 with hl := 0xFF0F, bc := 0x0400 }
     s.hl = 0xFF0F ∧ dispatchable (at1 s) (r8Value s .b) ∧ (r8Value s .b, (0x0050 : Word)) ∈ vectorTable) ∧
    (let s := { enabled 0x1F with hl := 0xFF0F, bc := 0x0C00 }
     s.hl = 0xFF0F ∧ dispatchable (at1 s) (r8Value s .b) ∧ ∀ p ∈ vectorTable, p.1 ≠ r8Value s .b) := by
  simp only [noVector_iff]
  decide +kernel

/-- `LDI (HL),A` and `LDD (HL),A`: the four cases of a store. -/
theorem witness_StoreByteAndStepPointer :
    let at1 (s : State) : State := { s with pc := s.pc + 1 }
    ({ enabled 0x04 with hl := 0xFF10 } : State).hl ≠ 0xFF0F ∧
    (let s := { enabled 0x00 with hl := 0xFF0F, af := 0x0800 }
     s.hl = 0xFF0F ∧ ¬ dispatchable (at1 s) (hiByte s.af)) ∧
    (let s := { enabled 0x08 with hl := 0xFF0F, af := 0x0800 }
     s.hl = 0xFF0F ∧ dispatchable (at1 s) (hiByte s.af) ∧ (hiByte s.af, (0x0058 : Word)) ∈ vectorTable) ∧
    (let s := { enabled 0x00 with hl := 0xFF0F, af := 0x0000 }
     s.hl = 0xFF0F ∧ dispatchable (at1 s) (hiByte s.af) ∧ ∀ p ∈ vectorTable, p.1 ≠ hiByte s.af) := by
  simp only [noVector_iff]
  decide +kernel

/-- `INC (HL)`: IF from 01 to 02 dispatches, from 02 to 03 crashes, and neither does with IE 0. -/
theorem witness_StepMemoryByte :
    let done (s : State) : State := ({ s with pc := s.pc + 1 } : State).setFlags false false false s.fC
    let v (s : State) : Byte := s.readByte s.hl + 1
    let s (ie old : Byte) : State := { codeAt 0x0100 [] [(0xFF0F, old), (0xFFFF, ie)] with ime := true, hl := 0xFF0F }
    ({ s 0x02 0x01 with hl := 0xC000 } : State).hl ≠ 0xFF0F ∧ (s 0x00 0x01).hl = 0xFF0F ∧
    ¬ dispatchable (done (s 0x00 0x01)) (v (s 0x00 0x01)) ∧
    (dispatchable (done (s 0x02 0x01)) (v (s 0x02 0x01)) ∧ (v (s 0x02 0x01), (0x0048 : Word)) ∈ vectorTable) ∧
    (dispatchable (done (s 0x03 0x02)) (v (s 0x03 0x02)) ∧ ∀ p ∈ vectorTable, p.1 ≠ v (s 0x03 0x02)) := by
  simp only [noVector_iff]
  decide +kernel

/-- `SLA (HL)` at 0xFF0F: 01 becomes 02; `SRL (HL)`: 01 becomes 00, which no vector serves. -/
theorem witness_RotateAndShift :
    let done (s : State) : State := ({ s with pc := s.pc + 2 } : State).setFlags false false false false
    let s (ie : Byte) : State := { codeAt 0x0100 [] [(0xFF0F, 0x01), (0xFFFF, ie)] with ime := true, hl := 0xFF0F }
    let v (op : RotOp) (ie : Byte) : Byte := (rotated op ((s ie).readByte (s ie).hl) (s ie).fC).1
    r8Reg .c = some .c ∧ ({ s 0x02 with hl := 0xFF0E } : State).hl ≠ 0xFF0F ∧ (s 0x02).hl = 0xFF0F ∧
    ¬ dispatchable (done (s 0x01)) (v .sla 0x01) ∧
    (dispatchable (done (s 0x02)) (v .sla 0x02) ∧ (v .sla 0x02, (0x0048 : Word)) ∈ vectorTable) ∧
    (dispatchable (done (s 0x02)) (v .srl 0x02) ∧ ∀ p ∈ vectorTable, p.1 ≠ v .srl 0x02) := by
  simp only [noVector_iff]
  decide +kernel

/-- `RES 0,(HL)` and `SET 4,(HL)` at 0xFF0F. -/
theorem witness_BitResetAndSet :
    let at2 (s : State) : State := { s with pc := s.pc + 2 }
    let s (ie old : Byte) : State := { codeAt 0x0100 [] [(0xFF0F, old), (0xFFFF, ie)] with ime := true, hl := 0xFF0F }
    r8Reg .e = some .e ∧ ({ s 0x10 0x00 with hl := 0xFF0E } : State).hl ≠ 0xFF0F ∧ (s 0x10 0x00).hl = 0xFF0F ∧
    ¬ dispatchable (at2 (s 0x0F 0x00)) (bitSet 0x00 4) ∧
    (dispatchable (at2 (s 0x10 0x00)) (bitSet 0x00 4) ∧ (bitSet 0x00 4, (0x0060 : Word)) ∈ vectorTable) ∧
    (dispatchable (at2 (s 0x10 0x01)) (bitCleared 0x01 0) ∧ ∀ p ∈ vectorTable, p.1 ≠ bitCleared 0x01 0) := by
  simp only [noVector_iff]
  decide +kernel

theorem witness_PrefixRunsTheExtendedInstruction : State.reset.hl ≠ 0xFF0F := by decide

end Sys2Proof.Tests
end

section
/-!
SUPPORT. Proofs about the architectural state (spec 10_state.md): rules of the registers and of F, what no instruction
touches, what one step keeps, and who writes IME and F.
-/

namespace Sys2Proof.Machine

/-! ### Halves of words and the low four bits of F (R22, R24) -/

/-- The low four bits of a word are those of its low byte. -/
theorem and_000F_eq_zero_iff (w : Word) : w &&& 0x000F = 0 ↔ loByte w &&& 0x0F = 0 := by
  have hw : (w &&& 0x000F).toNat = w.toNat % 16 := Nat.and_two_pow_sub_one_eq_mod w.toNat 4
  have hb : (loByte w &&& 0x0F).toNat = (loByte w).toNat % 16 := Nat.and_two_pow_sub_one_eq_mod (loByte w).toNat 4
  rw [← BitVec.toNat_inj, ← BitVec.toNat_inj, hw, hb, toNat_loByte, Nat.mod_mod_of_dvd _ (by decide : 16 ∣ 256)]
  rfl

/-- A bit of the low byte is that bit of the word. -/
theorem getLsbD_loByte (w : Word) {k : Nat} (hk : k < 8) : (loByte w).getLsbD k = w.getLsbD k := by
  simp [loByte, hk]

/-- A byte of four flags has its low four bits 0. -/
theorem flagByte_and_0F (z n h c : Bool) : flagByte z n h c &&& 0x0F = 0 := by
  cases z <;> cases n <;> cases h <;> cases c <;> rfl

/-- The flags stand at bits 7 to 4 of their byte. -/
theorem getLsbD_flagByte (z n h c : Bool) :
    (flagByte z n h c).getLsbD 7 = z ∧ (flagByte z n h c).getLsbD 6 = n ∧
    (flagByte z n h c).getLsbD 5 = h ∧ (flagByte z n h c).getLsbD 4 = c := by
  cases z <;> cases n <;> cases h <;> cases c <;> exact ⟨rfl, rfl, rfl, rfl⟩

/-! ### Reading a register after writing one (R22, R24) -/

theorem State.reg8_setReg8_self (s : State) (n : Reg8) (v : Byte) :
    (s.setReg8 n v).reg8 n = if n = .f then v &&& 0xF0 else v := by
  cases n <;> simp [State.setReg8, State.reg8]

theorem State.reg8_setReg8_of_ne (s : State) {n m : Reg8} (v : Byte) (h : m ≠ n) :
    (s.setReg8 n v).reg8 m = s.reg8 m := by
  cases n <;> cases m <;> first | exact absurd rfl h | simp [State.setReg8, State.reg8]

theorem State.reg16_setReg16_self (s : State) (n : Reg16) (v : Word) :
    (s.setReg16 n v).reg16 n = if n = .af then v &&& 0xFFF0 else v := by
  cases n <;> rfl

/-- Settles O29: a half written is read back, the other halves stay, and a pair is its two halves. -/
theorem halvesAliasTheirPairs : Obligations.HalvesAliasTheirPairs := by
  refine ⟨fun s n m v => ?_, fun s => ?_, State.reg16_setReg16_self⟩
  · by_cases h : m = n
    · subst h
      rw [if_pos rfl, State.reg8_setReg8_self]
    · rw [if_neg h, State.reg8_setReg8_of_ne s v h]
  · simp [State.reg16, State.reg8]

/-! ### The flags as bits of F (R24) -/

theorem State.fZ_eq (s : State) : s.fZ = (s.reg8 .f).getLsbD 7 := (getLsbD_loByte s.af (by decide)).symm
theorem State.fN_eq (s : State) : s.fN = (s.reg8 .f).getLsbD 6 := (getLsbD_loByte s.af (by decide)).symm
theorem State.fH_eq (s : State) : s.fH = (s.reg8 .f).getLsbD 5 := (getLsbD_loByte s.af (by decide)).symm
theorem State.fC_eq (s : State) : s.fC = (s.reg8 .f).getLsbD 4 := (getLsbD_loByte s.af (by decide)).symm

/-- F after a write of the four flags. -/
theorem State.reg8_f_setFlags (s : State) (z n h c : Bool) : (s.setFlags z n h c).reg8 .f = flagByte z n h c :=
  loByte_wordOf _ _

/-- A write of the flags leaves the low four bits of F zero, whatever they were. -/
theorem State.setFlags_padded (s : State) (z n h c : Bool) : (s.setFlags z n h c).af &&& 0x000F = 0 :=
  (and_000F_eq_zero_iff _).mpr ((congrArg (· &&& 0x0F) (s.reg8_f_setFlags z n h c)).trans (flagByte_and_0F z n h c))

/-- Settles O30, from the bits of the flag byte and the place of that byte in AF. -/
theorem flagsViewOfF : Obligations.FlagsViewOfF := by
  intro s z n h c
  obtain ⟨hz, hn, hh, hc⟩ := getLsbD_flagByte z n h c
  refine ⟨?_, ?_, ?_, ?_, hiByte_wordOf _ _, s.setFlags_padded z n h c, s.fZ_eq, s.fN_eq, s.fH_eq, s.fC_eq⟩
  · rw [State.fZ_eq, State.reg8_f_setFlags, hz]
  · rw [State.fN_eq, State.reg8_f_setFlags, hn]
  · rw [State.fH_eq, State.reg8_f_setFlags, hh]
  · rw [State.fC_eq, State.reg8_f_setFlags, hc]

end Sys2Proof.Machine
end

section
/-!
SUPPORT. The step as Execute and what follows it: the instruction that the decoder reads, a store through a descriptor, a
table row, what the step answers, and the argument that every invariant of the step uses (spec 40_engine.md R115 to R119).
-/

namespace Sys2Proof

/-! ### The instruction a window holds -/

/-- The instruction of a primary row, once its operand bytes are given. -/
def Row.fill (r : Row) (b1 b2 : Byte) : Instr :=
  match r with
  | .plain i => i
  | .byte f => f b1
  | .word f => f (wordOf b2 b1)

theorem decodeWindow_eq (b0 b1 b2 : Byte) :
    decodeWindow b0 b1 b2 = if b0 = extPrefix then extendedInstr b1 else (primaryRow b0).fill b1 b2 := by
  unfold decodeWindow Row.fill
  split
  · rfl
  · cases primaryRow b0 <;> rfl

/-- An extended row's instruction has that row's byte as its opcode; none of them is the ill-formed term. -/
theorem extendedInstr_opcode : ∀ op : Byte, (extendedInstr op).wf = true ∧ (extendedInstr op).opcode = op := by
  decide +kernel

/-- A primary row's instruction has that row's byte as its opcode, whatever its operands; the one ill-formed term stands
at the byte that selects the extended table. -/
theorem primaryRow_opcode (op b1 b2 : Byte) :
    ((primaryRow op).fill b1 b2).wf = (op != extPrefix) ∧ ((primaryRow op).fill b1 b2).opcode = op := by
  obtain ⟨k, hk, rfl⟩ : ∃ k < 256, op = BitVec.ofNat 8 k := ⟨op.toNat, op.isLt, by simp⟩
  interval_cases k <;> exact ⟨rfl, rfl⟩

/-- The decoder reads a well-formed instruction, and its opcode is the byte that indexed the table (R41, R88). -/
theorem decodeWindow_opcode (b0 b1 b2 : Byte) :
    (decodeWindow b0 b1 b2).wf = true ∧ (decodeWindow b0 b1 b2).opcode = if b0 = extPrefix then b1 else b0 := by
  rw [decodeWindow_eq]
  by_cases h : b0 = extPrefix
  · simpa only [if_pos h] using extendedInstr_opcode b1
  · obtain ⟨hwf, hop⟩ := primaryRow_opcode b0 b1 b2
    simp only [if_neg h]
    exact ⟨hwf.trans (bne_iff_ne.mpr h), hop⟩

end Sys2Proof

namespace Sys2Proof.Machine

theorem State.fetchInstr_wf (s : State) : s.fetchInstr.wf = true := (decodeWindow_opcode _ _ _).1

theorem State.fetchInstr_opcode (s : State) : s.fetchInstr.opcode = s.fetchOpcode := (decodeWindow_opcode _ _ _).2

/-! ### What a store through a memory descriptor can do -/

/-- A store through a memory descriptor is the plain store; or at 0xFF0F, when it dispatches, interrupt entry or the fatal
combination (R111, R264, R266). -/
theorem State.write8_mem_cases (s : State) (a : Word) (v : Byte) :
    (s.write8 (.mem a) v = .done (s.storeByte a v)) ∨
    (a = ifAddr ∧ s.dispatches v = true ∧ ∃ vector, interruptVector v = some vector ∧
      s.write8 (.mem a) v = .done ((((s.storeByte ifAddr 0).setIme false).push16 s.pc).setPc vector)) ∨
    (a = ifAddr ∧ s.dispatches v = true ∧ interruptVector v = none ∧
      s.write8 (.mem a) v = .raise .badInterruptCombination (((s.storeByte ifAddr 0).setIme false).push16 s.pc)) := by
  by_cases ha : a = ifAddr
  · subst ha
    cases hd : s.dispatches v with
    | false => exact .inl (State.write8_if_store s v hd)
    | true =>
      cases hv : interruptVector v with
      | some vector => exact .inr (.inl ⟨rfl, rfl, vector, rfl, State.write8_if_enter s hd hv⟩)
      | none => exact .inr (.inr ⟨rfl, rfl, rfl, State.write8_if_raise s hd hv⟩)
  · exact .inl (State.write8_mem_ne s v ha)

/-! ### A table row as its body on the state past the instruction -/

/-- What resolving a mode does to the state: PC past the operand bytes (R101 to R107). -/
theorem State.resolve_snd (s : State) (m : Mode) : (s.resolve m).2 = s.advance m.bytes := by
  cases m <;> first | rfl | exact (congrArg s.setPc (BitVec.add_zero s.pc)).symm

/-- A descriptor does not depend on PC. -/
theorem State.resolve_advance_fst (s : State) (n : Word) (m : Mode) : ((s.advance n).resolve m).1 = (s.resolve m).1 := by
  cases m <;> rfl

/-- A row is its body on the descriptors of the state before it, in that state with PC past the instruction. -/
theorem runRow_eq (size : Word) (op : Byte) (src dst : Mode) (body : Body) (s : State) :
    runRow size op src dst body s =
      (body (s.resolve src).1 (s.resolve dst).1 (s.advance (size + src.bytes + dst.bytes))).finish op := by
  simp only [runRow, State.resolve_snd, State.resolve_advance_fst]
  simp only [State.advance, BitVec.add_assoc]

/-- The end of a body: it completed, or it raised and CRASH records it. -/
theorem Effect.finish_cases {e : Effect} {op : Byte} {t : State} (h : e.finish op = .next t) :
    e = .done t ∨ ∃ cause u, e = .raise cause u ∧ t = u.enterCrashed cause op := by
  cases e with
  | done u => exact .inl (congrArg Effect.done (Host.Outcome.next.inj h))
  | raise cause u => exact .inr ⟨cause, u, rfl, (Host.Outcome.next.inj h).symm⟩

/-! ### What a step answers -/

/-- A step from a state that is not Crashed: one answer of the fetched instruction, then what follows Execute. -/
theorem step_answers {s t : State} (hs : s.crash = none) (h : step s = .next t) :
    ∃ u, Answers s.fetchInstr s u ∧ t = u.retire s.pc s.fetchOpcode := by
  cases he : exec s.fetchInstr s with
  | next u =>
    rw [step_of_exec hs he] at h
    exact ⟨u, exec_answers s.fetchInstr_wf he, (Host.Outcome.next.inj h).symm⟩
  | fault r => exact nomatch r
  | refused r =>
    rw [step, hs, he] at h
    exact nomatch h

/-- A property of states that every part of a step keeps: the updates of the instruction bodies, a crash, the serial step
and the instruction count. -/
structure KeptByParts (P : State → Prop) : Prop where
  updates : ∀ {s t : State}, Updates s t → P s → P t
  crash : ∀ {s : State} (cause : CrashCause) (op : Byte), P s → P (s.enterCrashed cause op)
  serial : ∀ {s : State}, P s → P s.serialStep
  count : ∀ {s : State} (n : Nat), P s → P { s with icount := n }

theorem KeptByParts.answers {P : State → Prop} (k : KeptByParts P) {i : Instr} {s u : State} (h : Answers i s u)
    (hs : P s) : P u := by
  cases h with
  | completes hu => exact k.updates hu hs
  | unset _ => exact k.crash _ _ hs
  | raises hu _ => exact k.crash _ _ (k.updates hu hs)

theorem KeptByParts.retire {P : State → Prop} (k : KeptByParts P) {t : State} (opAddr : Word) (op : Byte) (h : P t) :
    P (t.retire opAddr op) := by
  obtain ⟨_, hr⟩ | ⟨_, _, hr⟩ | ⟨_, _, hr⟩ := t.retire_cases opAddr op <;> rw [hr]
  · exact h
  · exact k.crash _ _ (k.serial h)
  · exact k.count _ (k.serial h)

/-- What every part of a step keeps, the step keeps. -/
theorem KeptByParts.step {P : State → Prop} (k : KeptByParts P) {s t : State} (hs : P s) (h : step s = .next t) :
    P t := by
  cases hc : s.crash with
  | some r =>
    rw [step_crashed (by rw [hc]; rfl)] at h
    exact Host.Outcome.next.inj h ▸ hs
  | none =>
    obtain ⟨u, hu, rfl⟩ := step_answers hc h
    exact k.retire _ _ (k.answers hu hs)

end Sys2Proof.Machine
end

section
/-!
SUPPORT. The part of the state that is for the host: ICOUNT and the Serial Link Buffer (spec 10_state.md R42, R43). What
bodies and steps do to it, and the two invariants of the registers and of the buffer.
-/

namespace Sys2Proof.Machine

/-- What no instruction body reads or writes: ICOUNT, the serial buffer, its marker and its capacity (R42, R43). -/
structure HostPart where
  icount : Nat
  serial : List Byte
  serialEol : Bool
  serialCapacity : Nat

/-- The part of a state that no instruction body reads or writes. -/
def State.hostPart (s : State) : HostPart := ⟨s.icount, s.serial, s.serialEol, s.serialCapacity⟩

/-- The updates of the instruction bodies leave that part of the state. -/
theorem Updates.hostPart_eq {s t : State} (h : Updates s t) : t.hostPart = s.hostPart := by
  induction h with
  | refl => rfl
  | reg8 n v _ ih => rw [← ih]; cases n <;> rfl
  | reg16 n v _ ih => rw [← ih]; cases n <;> rfl
  | flags z n hc c _ ih => exact ih
  | pc v _ ih => exact ih
  | ime v _ ih => exact ih
  | store a v _ ih => exact ih

/-- The updates of the instruction bodies leave CRASH. -/
theorem Updates.crash_eq {s t : State} (h : Updates s t) : t.crash = s.crash := by
  induction h with
  | refl => rfl
  | reg8 n v _ ih => rw [State.setReg8_crash, ih]
  | reg16 n v _ ih => rw [State.setReg16_crash, ih]
  | flags z n hc c _ ih => exact ih
  | pc v _ ih => exact ih
  | ime v _ ih => exact ih
  | store a v _ ih => exact ih

theorem Updates.icount_eq {s t : State} (h : Updates s t) : t.icount = s.icount := congrArg HostPart.icount h.hostPart_eq

/-- An instruction leaves that part of the state, also when it crashes. -/
theorem Answers.hostPart_eq {i : Instr} {s t : State} (h : Answers i s t) : t.hostPart = s.hostPart := by
  cases h with
  | completes hu => exact hu.hostPart_eq
  | unset _ => rfl
  | raises hu _ => exact hu.hostPart_eq

/-- An instruction leaves CRASH, or records its own opcode and the count. -/
theorem Answers.crash_eq {i : Instr} {s t : State} (h : Answers i s t) :
    t.crash = s.crash ∨ ∃ cause, t.crash = some ⟨cause, i.opcode, s.icount⟩ := by
  cases h with
  | completes hu => exact .inl hu.crash_eq
  | unset _ => exact .inr ⟨_, rfl⟩
  | raises hu _ =>
    exact .inr ⟨.badInterruptCombination, by rw [State.enterCrashed_crash, hu.icount_eq]⟩

/-- Settles O23: no update of a body touches that part of the state or CRASH. -/
theorem execSystemFrame : Obligations.ExecSystemFrame := by
  intro i s t hi h
  have ha := exec_answers hi h
  obtain ⟨hn, hq, he, hk⟩ := HostPart.mk.inj ha.hostPart_eq
  exact ⟨hn, hq, he, hk, ha.crash_eq⟩

/-- Settles O8: the fetched instruction leaves ICOUNT, and what follows it either counts one, with PC away from the
instruction, or records the crash. -/
theorem stepCountsOrRecordsTheCrash : Obligations.StepCountsOrRecordsTheCrash := by
  intro s t hs h
  obtain ⟨u, hu, rfl⟩ := step_answers hs h
  have hn : u.icount = s.icount := congrArg HostPart.icount hu.hostPart_eq
  obtain ⟨hc, hr⟩ | ⟨hc, hp, hr⟩ | ⟨hc, hp, hr⟩ := u.retire_cases s.pc s.fetchOpcode <;> rw [hr]
  case inl =>
    refine ⟨fun hnone => absurd hnone hc, fun r hrec => ?_⟩
    obtain hsame | ⟨cause, hcause⟩ := hu.crash_eq
    · exact absurd (hsame.trans hs) hc
    · obtain rfl := Option.some.inj (hcause.symm.trans hrec)
      exact ⟨rfl, hn, s.fetchInstr_opcode⟩
  case inr.inl =>
    refine ⟨fun hnone => (nomatch hnone), fun r hrec => ?_⟩
    obtain rfl := Option.some.inj hrec
    exact ⟨by simp [hn], by simp [hn], rfl⟩
  case inr.inr =>
    refine ⟨fun _ => ⟨congrArg (· + 1) hn, by simpa using hp⟩, fun r hrec => ?_⟩
    exact nomatch (hc.symm.trans ((State.serialStep_crash u).symm.trans hrec))

/-! ### The invariant of F (R24, D5) -/

/-- A register write leaves the low four bits of F zero: a write of A keeps F, a write of F masks it. -/
theorem State.setReg8_padded {s : State} (n : Reg8) (v : Byte) (h : s.af &&& 0x000F = 0) :
    (s.setReg8 n v).af &&& 0x000F = 0 := by
  cases n with
  | a => rwa [and_000F_eq_zero_iff, State.setReg8, loByte_wordOf, ← and_000F_eq_zero_iff]
  | f =>
    rw [and_000F_eq_zero_iff, State.setReg8, loByte_wordOf, BitVec.and_assoc]
    exact BitVec.and_zero
  | b => exact h
  | c => exact h
  | d => exact h
  | e => exact h
  | h => exact h
  | l => exact h

/-- A write of a pair leaves the low four bits of F zero: a write of AF masks them. -/
theorem State.setReg16_padded {s : State} (n : Reg16) (v : Word) (h : s.af &&& 0x000F = 0) :
    (s.setReg16 n v).af &&& 0x000F = 0 := by
  cases n with
  | af => exact (BitVec.and_assoc v 0xFFF0 0x000F).trans BitVec.and_zero
  | bc => exact h
  | de => exact h
  | hl => exact h
  | sp => exact h

theorem Updates.padded {s t : State} (h : Updates s t) (hs : s.af &&& 0x000F = 0) : t.af &&& 0x000F = 0 := by
  induction h with
  | refl => exact hs
  | reg8 n v _ ih => exact State.setReg8_padded n v ih
  | reg16 n v _ ih => exact State.setReg16_padded n v ih
  | flags z n hc c _ _ => exact State.setFlags_padded _ z n hc c
  | pc v _ ih => exact ih
  | ime v _ ih => exact ih
  | store a v _ ih => exact ih

theorem padded_keptByParts : KeptByParts fun s => s.af &&& 0x000F = 0 where
  updates hu hs := hu.padded hs
  crash _ _ hs := hs
  serial hs := by rwa [State.serialStep_af]
  count _ hs := hs

/-- Settles O16: every write of F or AF masks the low four bits, and nothing else of a step writes AF. -/
theorem stepKeepsFlagsPadded : Obligations.StepKeepsFlagsPadded :=
  fun _ _ hs h => padded_keptByParts.step hs h

/-! ### The invariant of the serial buffer (R43, R282) -/

/-- Consistency is a property of the host's part of the state alone. -/
theorem State.serialConsistent_congr {s t : State} (h : t.hostPart = s.hostPart) :
    t.serialConsistent = s.serialConsistent := by
  obtain ⟨_, hq, he, hk⟩ := HostPart.mk.inj h
  rw [State.serialConsistent, State.serialConsistent, hq, he, hk]

/-- A byte appended to a buffer with room, with its marker, leaves a consistent buffer. -/
theorem State.serialConsistent_append {s : State} (b : Byte) (h : s.serial.length < s.serialCapacity - 1) :
    ({ s with serial := s.serial ++ [b], serialEol := b == newline } : State).serialConsistent = true := by
  simp only [State.serialConsistent, List.length_append, List.length_singleton, List.getLast?_concat]
  simp only [Bool.and_eq_true, decide_eq_true_eq, beq_iff_eq]
  exact ⟨h, rfl⟩

theorem serialConsistent_keptByParts : KeptByParts fun s => s.serialConsistent = true where
  updates hu hs := (State.serialConsistent_congr hu.hostPart_eq).trans hs
  crash _ _ hs := hs
  serial {s} hs := by
    obtain ⟨_, h⟩ | ⟨_, _, h⟩ | ⟨_, hroom, h⟩ := s.serialStep_cases <;> rw [h]
    · exact hs
    · exact hs
    · exact State.serialConsistent_append _ hroom
  count _ hs := hs

/-- Settles O17: only the serial step writes the buffer, and it appends one byte with its marker where there is room. -/
theorem stepKeepsSerialConsistent : Obligations.StepKeepsSerialConsistent :=
  fun _ _ hs h => serialConsistent_keptByParts.step hs h

/-! ### The buffer is append-only (R43, R281, R283) -/

/-- From a state to a later one the capacity stays, and the buffer stays or takes one byte with its marker, SC then
holding 0x01. -/
def Appends (s t : State) : Prop :=
  t.serialCapacity = s.serialCapacity ∧
    ((t.serial = s.serial ∧ t.serialEol = s.serialEol) ∨
      ∃ b : Byte, t.serial = s.serial ++ [b] ∧ t.serialEol = decide (b = 0x0A) ∧ t.readByte 0xFF02 = 0x01)

/-- A state with the same host part has appended nothing. -/
theorem Appends.of_hostPart_eq {s t : State} (h : t.hostPart = s.hostPart) : Appends s t := by
  obtain ⟨_, hq, he, hk⟩ := HostPart.mk.inj h
  exact ⟨hk, .inl ⟨hq, he⟩⟩

theorem Appends.congr_left {s u t : State} (h : u.hostPart = s.hostPart) (ha : Appends u t) : Appends s t := by
  obtain ⟨_, hq, he, hk⟩ := HostPart.mk.inj h
  rwa [Appends, hq, he, hk] at ha

/-- The serial step appends at most one byte, and then marks the transfer done in SC. -/
theorem State.serialStep_appends (s : State) : Appends s s.serialStep := by
  obtain ⟨_, h⟩ | ⟨_, _, h⟩ | ⟨_, _, h⟩ := s.serialStep_cases <;> rw [h]
  · exact .of_hostPart_eq rfl
  · exact .of_hostPart_eq rfl
  · exact ⟨rfl, .inr ⟨s.readByte sbAddr, rfl, rfl,
      (State.readByte_storeByte _ scAddr scAddr serialDone).trans (if_pos rfl)⟩⟩

theorem State.retire_appends (s : State) (opAddr : Word) (op : Byte) : Appends s (s.retire opAddr op) := by
  obtain ⟨_, h⟩ | ⟨_, _, h⟩ | ⟨_, _, h⟩ := s.retire_cases opAddr op <;> rw [h]
  · exact .of_hostPart_eq rfl
  · exact s.serialStep_appends
  · exact s.serialStep_appends

/-- Settles O19: the instruction leaves the buffer, and what follows it is one serial step at most. -/
theorem stepAppendsAtMostOneByte : Obligations.StepAppendsAtMostOneByte := by
  intro s t h
  show Appends s t
  cases hc : s.crash with
  | some r =>
    rw [step_crashed (by rw [hc]; rfl)] at h
    exact .of_hostPart_eq (congrArg State.hostPart (Host.Outcome.next.inj h).symm)
  | none =>
    obtain ⟨u, hu, rfl⟩ := step_answers hc h
    exact (u.retire_appends _ _).congr_left hu.hostPart_eq

end Sys2Proof.Machine
end

section
/-!
SUPPORT. No instruction reads ICOUNT or the Serial Link Buffer (spec 10_state.md R42, R43): every operation of a body gives
the same answer on two states that differ there only.
-/

namespace Sys2Proof.Machine

/-- A state with another host part. -/
def State.withHost (s : State) (p : HostPart) : State :=
  { s with icount := p.icount, serial := p.serial, serialEol := p.serialEol, serialCapacity := p.serialCapacity }

/-- An effect whose state has another host part. -/
def Effect.withHost (e : Effect) (p : HostPart) : Effect :=
  match e with
  | .done s => .done (s.withHost p)
  | .raise cause s => .raise cause (s.withHost p)

/-! ### Every operation ignores the host part -/

section
variable (s : State) (p : HostPart)

@[simp] theorem State.withHost_read8 (d : Desc) : (s.withHost p).read8 d = s.read8 d := by
  cases d with
  | reg8 n => cases n <;> rfl
  | mem a => rfl
  | imm8 v => rfl
  | none => rfl
  | reg16 n => rfl
  | imm16 v => rfl

@[simp] theorem State.withHost_read16 (d : Desc) : (s.withHost p).read16 d = s.read16 d := by
  cases d with
  | reg16 n => cases n <;> rfl
  | mem a => rfl
  | imm16 v => rfl
  | none => rfl
  | reg8 n => rfl
  | imm8 v => rfl

@[simp] theorem State.withHost_setReg8 (n : Reg8) (v : Byte) :
    (s.withHost p).setReg8 n v = (s.setReg8 n v).withHost p := by
  cases n <;> rfl

@[simp] theorem State.withHost_setReg16 (n : Reg16) (v : Word) :
    (s.withHost p).setReg16 n v = (s.setReg16 n v).withHost p := by
  cases n <;> rfl

@[simp] theorem State.withHost_write16 (d : Desc) (v : Word) :
    (s.withHost p).write16 d v = (s.write16 d v).withHost p := by
  cases d with
  | reg16 n => exact s.withHost_setReg16 p n v
  | mem a => rfl
  | none => rfl
  | reg8 n => rfl
  | imm8 v => rfl
  | imm16 v => rfl

@[simp] theorem State.withHost_enterInterrupt (v : Byte) :
    (s.withHost p).enterInterrupt v = (s.enterInterrupt v).withHost p := by
  unfold State.enterInterrupt
  cases interruptVector v <;> rfl

@[simp] theorem State.withHost_writeIF (v : Byte) : (s.withHost p).writeIF v = (s.writeIF v).withHost p := by
  have same : (s.withHost p).dispatches v = s.dispatches v := rfl
  unfold State.writeIF
  rw [same]
  split
  · exact s.withHost_enterInterrupt p v
  · rfl

@[simp] theorem State.withHost_write8 (d : Desc) (v : Byte) :
    (s.withHost p).write8 d v = (s.write8 d v).withHost p := by
  cases d with
  | reg8 n => exact congrArg Effect.done (s.withHost_setReg8 p n v)
  | mem a =>
    simp only [State.write8]
    split
    · exact s.withHost_writeIF p v
    · rfl
  | none => rfl
  | reg16 n => rfl
  | imm8 v => rfl
  | imm16 v => rfl

@[simp] theorem State.withHost_setFlags (z n h c : Bool) :
    (s.withHost p).setFlags z n h c = (s.setFlags z n h c).withHost p := rfl
@[simp] theorem State.withHost_setPc (v : Word) : (s.withHost p).setPc v = (s.setPc v).withHost p := rfl
@[simp] theorem State.withHost_setIme (v : Bool) : (s.withHost p).setIme v = (s.setIme v).withHost p := rfl
@[simp] theorem State.withHost_advance (n : Word) : (s.withHost p).advance n = (s.advance n).withHost p := rfl
@[simp] theorem State.withHost_push16 (v : Word) : (s.withHost p).push16 v = (s.push16 v).withHost p := rfl
@[simp] theorem State.withHost_pop16 : (s.withHost p).pop16 = (s.pop16.1, s.pop16.2.withHost p) := rfl
@[simp] theorem State.withHost_returnFromCall : (s.withHost p).returnFromCall = s.returnFromCall.withHost p := rfl
@[simp] theorem State.withHost_returnFromInterrupt :
    (s.withHost p).returnFromInterrupt = s.returnFromInterrupt.withHost p := rfl
@[simp] theorem State.withHost_readByte (a : Word) : (s.withHost p).readByte a = s.readByte a := rfl
@[simp] theorem State.withHost_sp : (s.withHost p).sp = s.sp := rfl
@[simp] theorem State.withHost_pc : (s.withHost p).pc = s.pc := rfl
@[simp] theorem State.withHost_hl : (s.withHost p).hl = s.hl := rfl
@[simp] theorem State.withHost_fZ : (s.withHost p).fZ = s.fZ := rfl
@[simp] theorem State.withHost_fN : (s.withHost p).fN = s.fN := rfl
@[simp] theorem State.withHost_fH : (s.withHost p).fH = s.fH := rfl
@[simp] theorem State.withHost_fC : (s.withHost p).fC = s.fC := rfl
@[simp] theorem State.withHost_holds (cc : Cond) : (s.withHost p).holds cc = s.holds cc := by cases cc <;> rfl

@[simp] theorem State.withHost_resolve (m : Mode) :
    (s.withHost p).resolve m = ((s.resolve m).1, (s.resolve m).2.withHost p) := by
  cases m <;> rfl

end

@[simp] theorem Effect.withHost_done (s : State) (p : HostPart) :
    (Effect.done s).withHost p = .done (s.withHost p) := rfl

theorem Effect.withHost_andThen (e : Effect) (p : HostPart) {rest : State → Effect}
    (h : ∀ s : State, rest (s.withHost p) = (rest s).withHost p) :
    (e.withHost p).andThen rest = (e.andThen rest).withHost p := by
  cases e with
  | done s => exact h s
  | raise cause s => rfl

/-! ### Every body ignores the host part -/

/-- A body that gives the same effect whatever the host part is, and leaves it. -/
def Body.IgnoresHost (body : Body) : Prop :=
  ∀ (src dst : Desc) (s : State) (p : HostPart), body src dst (s.withHost p) = (body src dst s).withHost p

/-- The end of an operation that writes its result and the flags of it. -/
@[simp] theorem writeAlu_withHost (dst : Desc) (out : Alu8) (s : State) (p : HostPart) :
    writeAlu dst out (s.withHost p) = (writeAlu dst out s).withHost p := by
  simp [writeAlu]

@[simp] theorem nopBody_ignoresHost : Body.IgnoresHost nopBody := fun _ _ _ _ => rfl
@[simp] theorem diBody_ignoresHost : Body.IgnoresHost diBody := fun _ _ _ _ => rfl
@[simp] theorem eiBody_ignoresHost : Body.IgnoresHost eiBody := fun _ _ _ _ => rfl
@[simp] theorem ld8Body_ignoresHost : Body.IgnoresHost ld8Body := fun src dst s p => by simp [ld8Body]
@[simp] theorem ld16Body_ignoresHost : Body.IgnoresHost ld16Body := fun src dst s p => by simp [ld16Body]
@[simp] theorem ldHlSpBody_ignoresHost : Body.IgnoresHost ldHlSpBody := fun src dst s p => by simp [ldHlSpBody]
@[simp] theorem pushBody_ignoresHost : Body.IgnoresHost pushBody := fun src dst s p => by simp [pushBody]
@[simp] theorem popBody_ignoresHost : Body.IgnoresHost popBody := fun src dst s p => by simp [popBody]
@[simp] theorem addBody_ignoresHost : Body.IgnoresHost addBody := fun src dst s p => by simp [addBody]
@[simp] theorem adcBody_ignoresHost : Body.IgnoresHost adcBody := fun src dst s p => by simp [adcBody]
@[simp] theorem subBody_ignoresHost : Body.IgnoresHost subBody := fun src dst s p => by simp [subBody]
@[simp] theorem sbcBody_ignoresHost : Body.IgnoresHost sbcBody := fun src dst s p => by simp [sbcBody]
@[simp] theorem andBody_ignoresHost : Body.IgnoresHost andBody := fun src dst s p => by simp [andBody]
@[simp] theorem xorBody_ignoresHost : Body.IgnoresHost xorBody := fun src dst s p => by simp [xorBody]
@[simp] theorem orBody_ignoresHost : Body.IgnoresHost orBody := fun src dst s p => by simp [orBody]
@[simp] theorem cpBody_ignoresHost : Body.IgnoresHost cpBody := fun src dst s p => by simp [cpBody]
@[simp] theorem incBody_ignoresHost : Body.IgnoresHost incBody := fun src dst s p => by simp [incBody]
@[simp] theorem decBody_ignoresHost : Body.IgnoresHost decBody := fun src dst s p => by simp [decBody]
@[simp] theorem daaBody_ignoresHost : Body.IgnoresHost daaBody := fun src dst s p => by simp [daaBody]
@[simp] theorem cplBody_ignoresHost : Body.IgnoresHost cplBody := fun src dst s p => by simp [cplBody]
@[simp] theorem scfBody_ignoresHost : Body.IgnoresHost scfBody := fun src dst s p => by simp [scfBody]
@[simp] theorem ccfBody_ignoresHost : Body.IgnoresHost ccfBody := fun src dst s p => by simp [ccfBody]
@[simp] theorem addHlBody_ignoresHost : Body.IgnoresHost addHlBody := fun src dst s p => by simp [addHlBody]
@[simp] theorem inc16Body_ignoresHost : Body.IgnoresHost inc16Body := fun src dst s p => by simp [inc16Body]
@[simp] theorem dec16Body_ignoresHost : Body.IgnoresHost dec16Body := fun src dst s p => by simp [dec16Body]
@[simp] theorem addSpBody_ignoresHost : Body.IgnoresHost addSpBody := fun src dst s p => by simp [addSpBody]
@[simp] theorem jpBody_ignoresHost : Body.IgnoresHost jpBody := fun src dst s p => by simp [jpBody]
@[simp] theorem jrBody_ignoresHost : Body.IgnoresHost jrBody := fun src dst s p => by simp [jrBody]
@[simp] theorem callBody_ignoresHost : Body.IgnoresHost callBody := fun src dst s p => by simp [callBody]
@[simp] theorem retBody_ignoresHost : Body.IgnoresHost retBody := fun src dst s p => by simp [retBody]
@[simp] theorem retiBody_ignoresHost : Body.IgnoresHost retiBody := fun src dst s p => by simp [retiBody]
@[simp] theorem rlcaBody_ignoresHost : Body.IgnoresHost rlcaBody := fun src dst s p => by simp [rlcaBody, rotAccBody]
@[simp] theorem rrcaBody_ignoresHost : Body.IgnoresHost rrcaBody := fun src dst s p => by simp [rrcaBody, rotAccBody]
@[simp] theorem rlaBody_ignoresHost : Body.IgnoresHost rlaBody := fun src dst s p => by simp [rlaBody, rotAccBody]
@[simp] theorem rraBody_ignoresHost : Body.IgnoresHost rraBody := fun src dst s p => by simp [rraBody, rotAccBody]
@[simp] theorem rotBody_ignoresHost (f : Byte → Bool → Byte × Bool) : Body.IgnoresHost (rotBody f) :=
  fun src dst s p => by simp [rotBody]
@[simp] theorem bitBody_ignoresHost (b : Nat) : Body.IgnoresHost (bitBody b) := fun src dst s p => by simp [bitBody]
@[simp] theorem resBody_ignoresHost (b : Nat) : Body.IgnoresHost (resBody b) := fun src dst s p => by simp [resBody]
@[simp] theorem setBody_ignoresHost (b : Nat) : Body.IgnoresHost (setBody b) := fun src dst s p => by simp [setBody]
@[simp] theorem rstBody_ignoresHost (n : Word) : Body.IgnoresHost (rstBody n) := fun src dst s p => by simp [rstBody]
@[simp] theorem ldiBody_ignoresHost : Body.IgnoresHost ldiBody := fun src dst s p => by
  simp only [ldiBody, State.withHost_write8, State.withHost_read8]
  exact Effect.withHost_andThen _ p fun s => congrArg Effect.done (s.withHost_setReg16 p .hl _)
@[simp] theorem lddBody_ignoresHost : Body.IgnoresHost lddBody := fun src dst s p => by
  simp only [lddBody, State.withHost_write8, State.withHost_read8]
  exact Effect.withHost_andThen _ p fun s => congrArg Effect.done (s.withHost_setReg16 p .hl _)

theorem Body.IgnoresHost.guarded {body : Body} (cc : Cond) (h : Body.IgnoresHost body) :
    Body.IgnoresHost fun src dst s => if s.holds cc then body src dst s else .done s := by
  intro src dst s p
  simp only [State.withHost_holds]
  split
  · exact h src dst s p
  · rfl

@[simp] theorem jpCondBody_ignoresHost (cc : Cond) : Body.IgnoresHost (jpCondBody cc) := jpBody_ignoresHost.guarded cc
@[simp] theorem jrCondBody_ignoresHost (cc : Cond) : Body.IgnoresHost (jrCondBody cc) := jrBody_ignoresHost.guarded cc
@[simp] theorem callCondBody_ignoresHost (cc : Cond) : Body.IgnoresHost (callCondBody cc) :=
  callBody_ignoresHost.guarded cc
@[simp] theorem retCondBody_ignoresHost (cc : Cond) : Body.IgnoresHost (retCondBody cc) :=
  retBody_ignoresHost.guarded cc
@[simp] theorem extendedBody_ignoresHost (op : Byte) : Body.IgnoresHost (extendedBody op) := by
  unfold extendedBody
  split <;> simp

/-! ### Every instruction ignores the host part -/

/-- A table row that does not crash gives the same answer whatever the host part is, and leaves it. -/
theorem runRow_withHost {size : Word} {op : Byte} {src dst : Mode} {body : Body} {s t : State} (p : HostPart)
    (hb : body.IgnoresHost) (h : runRow size op src dst body s = .next t) (ht : t.crash = none) :
    runRow size op src dst body (s.withHost p) = .next (t.withHost p) := by
  rw [runRow_eq] at h ⊢
  rw [State.withHost_resolve, State.withHost_resolve, State.withHost_advance, hb]
  obtain he | ⟨cause, u, _, rfl⟩ := Effect.finish_cases h
  · rw [he]
    rfl
  · exact nomatch ht

/-- An instruction that does not crash gives the same answer whatever the host part is, and leaves it. -/
theorem exec_withHost {i : Instr} {s t : State} (p : HostPart) (h : exec i s = .next t) (ht : t.crash = none) :
    exec i (s.withHost p) = .next (t.withHost p) := by
  cases i <;> dsimp only [exec] at h ⊢ <;> first
    | exact runRow_withHost p (by simp) h ht
    -- the unset entries crash
    | (obtain rfl := Host.Outcome.next.inj h; exact nomatch ht)

/-- Settles O24: the two runs are the run of one state and of the same state with another host part. -/
theorem execCannotReadHostState : Obligations.ExecCannotReadHostState :=
  fun _ _ _ n q e k _ h ht => exec_withHost ⟨n, q, e, k⟩ h ht

end Sys2Proof.Machine
end

section
/-!
SUPPORT. Who writes F and who writes IME (spec 10_state.md R26, R27): what a write through a descriptor does to them, then
each body, then each instruction.
-/

namespace Sys2Proof.Machine

open Sys2Proof.Claims

/-! ### F (R26) -/

/-- Whether a write through a descriptor can change F. No table row has such a destination but `POP AF`'s. -/
def Desc.holdsF (d : Desc) : Bool :=
  match d with
  | .reg8 .f => true
  | .reg16 .af => true
  | _ => false

theorem State.write8_keepsF (s : State) {d : Desc} (v : Byte) (hd : d.holdsF = false) :
    loByte (s.write8 d v).state.af = loByte s.af := by
  cases d with
  | reg8 n =>
    cases n with
    | a => exact loByte_wordOf _ _
    | f => exact nomatch hd
    | b => rfl
    | c => rfl
    | d => rfl
    | e => rfl
    | h => rfl
    | l => rfl
  | mem a =>
    obtain h | ⟨_, _, _, _, h⟩ | ⟨_, _, _, h⟩ := s.write8_mem_cases a v <;> rw [h] <;> rfl
  | none => rfl
  | reg16 n => rfl
  | imm8 v => rfl
  | imm16 v => rfl

theorem State.write16_keepsF (s : State) {d : Desc} (v : Word) (hd : d.holdsF = false) :
    loByte (s.write16 d v).af = loByte s.af := by
  cases d with
  | reg16 n =>
    cases n with
    | af => exact nomatch hd
    | bc => rfl
    | de => rfl
    | hl => rfl
    | sp => rfl
  | mem a => rfl
  | none => rfl
  | reg8 n => rfl
  | imm8 v => rfl
  | imm16 v => rfl

/-- A body that leaves F, unless its destination is F. -/
def Body.KeepsF (body : Body) : Prop :=
  ∀ (src dst : Desc) (s : State), dst.holdsF = false → loByte (body src dst s).state.af = loByte s.af

/-- Under a condition, a body still leaves what it leaves: the other branch changes nothing. -/
theorem Effect.state_guarded {α : Type} {e : Effect} {s : State} (b : Bool) (f : State → α) (h : f e.state = f s) :
    f (if b then e else .done s).state = f s := by
  cases b with
  | true => exact h
  | false => rfl

theorem Effect.andThen_hl_af (e : Effect) (f : State → Word) :
    (e.andThen fun t => .done (t.setReg16 .hl (f t))).state.af = e.state.af := by
  cases e <;> rfl

@[simp] theorem ld8Body_keepsF : Body.KeepsF ld8Body := fun _ _ s hd => s.write8_keepsF _ hd
@[simp] theorem ldiBody_keepsF : Body.KeepsF ldiBody := fun _ _ s hd =>
  (congrArg loByte (Effect.andThen_hl_af _ _)).trans (s.write8_keepsF _ hd)
@[simp] theorem lddBody_keepsF : Body.KeepsF lddBody := fun _ _ s hd =>
  (congrArg loByte (Effect.andThen_hl_af _ _)).trans (s.write8_keepsF _ hd)
@[simp] theorem resBody_keepsF (b : Nat) : Body.KeepsF (resBody b) := fun _ _ s hd => s.write8_keepsF _ hd
@[simp] theorem setBody_keepsF (b : Nat) : Body.KeepsF (setBody b) := fun _ _ s hd => s.write8_keepsF _ hd
@[simp] theorem ld16Body_keepsF : Body.KeepsF ld16Body := fun _ _ s hd => s.write16_keepsF _ hd
@[simp] theorem popBody_keepsF : Body.KeepsF popBody := fun _ _ s hd => s.pop16.2.write16_keepsF _ hd
@[simp] theorem inc16Body_keepsF : Body.KeepsF inc16Body := fun _ _ s hd => s.write16_keepsF _ hd
@[simp] theorem dec16Body_keepsF : Body.KeepsF dec16Body := fun _ _ s hd => s.write16_keepsF _ hd
@[simp] theorem nopBody_keepsF : Body.KeepsF nopBody := fun _ _ _ _ => rfl
@[simp] theorem diBody_keepsF : Body.KeepsF diBody := fun _ _ _ _ => rfl
@[simp] theorem eiBody_keepsF : Body.KeepsF eiBody := fun _ _ _ _ => rfl
@[simp] theorem pushBody_keepsF : Body.KeepsF pushBody := fun _ _ _ _ => rfl
@[simp] theorem jpBody_keepsF : Body.KeepsF jpBody := fun _ _ _ _ => rfl
@[simp] theorem jrBody_keepsF : Body.KeepsF jrBody := fun _ _ _ _ => rfl
@[simp] theorem callBody_keepsF : Body.KeepsF callBody := fun _ _ _ _ => rfl
@[simp] theorem retBody_keepsF : Body.KeepsF retBody := fun _ _ _ _ => rfl
@[simp] theorem retiBody_keepsF : Body.KeepsF retiBody := fun _ _ _ _ => rfl
@[simp] theorem rstBody_keepsF (n : Word) : Body.KeepsF (rstBody n) := fun _ _ _ _ => rfl

@[simp] theorem jpCondBody_keepsF (cc : Cond) : Body.KeepsF (jpCondBody cc) := fun src dst s hd =>
  Effect.state_guarded _ (fun t => loByte t.af) (jpBody_keepsF src dst s hd)
@[simp] theorem jrCondBody_keepsF (cc : Cond) : Body.KeepsF (jrCondBody cc) := fun src dst s hd =>
  Effect.state_guarded _ (fun t => loByte t.af) (jrBody_keepsF src dst s hd)
@[simp] theorem callCondBody_keepsF (cc : Cond) : Body.KeepsF (callCondBody cc) := fun src dst s hd =>
  Effect.state_guarded _ (fun t => loByte t.af) (callBody_keepsF src dst s hd)
@[simp] theorem retCondBody_keepsF (cc : Cond) : Body.KeepsF (retCondBody cc) := fun src dst s hd =>
  Effect.state_guarded _ (fun t => loByte t.af) (retBody_keepsF src dst s hd)

/-- A table row whose body leaves F leaves F, crashed or not. -/
theorem runRow_keepsF {size : Word} {op : Byte} {src dst : Mode} {body : Body} {s t : State} (hb : body.KeepsF)
    (h : runRow size op src dst body s = .next t) (hd : (s.resolve dst).1.holdsF = false) :
    loByte t.af = loByte s.af := by
  rw [runRow_eq] at h
  have hF := hb (s.resolve src).1 _ (s.advance (size + src.bytes + dst.bytes)) hd
  obtain he | ⟨cause, u, he, rfl⟩ := Effect.finish_cases h <;> rw [he] at hF <;> exact hF

/-- Settles O21: an instruction is listed, or its row has a body and a destination that leave F. -/
theorem unlistedInstructionsLeaveFlags : Obligations.UnlistedInstructionsLeaveFlags := by
  intro i s t h hw
  cases i <;> dsimp only [exec] at h <;> first
    -- a listed instruction
    | exact absurd hw.symm Bool.false_ne_true
    | exact runRow_keepsF (by simp) h rfl
    -- an unset entry
    | (obtain rfl := Host.Outcome.next.inj h; rfl)

/-! ### IME (R27) -/

theorem State.dispatches_iff (s : State) (v : Byte) : s.dispatches v = true ↔ dispatchable s v := by
  simp [State.dispatches, dispatchable, ieAddr]

/-- A vector of an enabled value is that of the table (R265). -/
theorem interruptVector_mem {v : Byte} {vector : Word} (h : interruptVector v = some vector) :
    (v, vector) ∈ vectorTable := by
  unfold interruptVector at h
  simp only [vectorTable, List.mem_cons, Prod.mk.injEq]
  split_ifs at h <;> simp_all

/-- The word pushed last is on top of the stack (R137, R138). -/
theorem stackTop_push16 (s : State) (w : Word) : stackTop (s.push16 w) = w := by
  have hne : s.sp - 1 ≠ s.sp - 1 - 1 := by bv_omega
  have hsucc : s.sp - 1 - 1 + 1 = s.sp - 1 := by bv_omega
  rw [stackTop, State.push16_sp, hsucc, State.push16_eq]
  simp only [State.readByte_storeByte, if_neg hne, if_true]
  exact wordOf_hiByte_loByte w

/-- The effect of a dispatching store at `s`: interrupt entry for some enabled value (PC at its vector, the old PC on the
stack), or the fatal combination. -/
def Effect.Dispatched (s : State) (e : Effect) : Prop :=
  ∃ v, dispatchable s v ∧
    ((∃ u, e = .done u ∧ u.ime = false ∧ (v, u.pc) ∈ vectorTable ∧ u.sp = s.sp - 2 ∧ stackTop u = s.pc) ∨
      ∃ u, e = .raise .badInterruptCombination u)

theorem State.write8_ime (s : State) (d : Desc) (v : Byte) :
    (s.write8 d v).state.ime = s.ime ∨ (d = .mem ifAddr ∧ (s.write8 d v).Dispatched s) := by
  cases d with
  | mem a =>
    obtain h | ⟨rfl, hd, vector, hv, h⟩ | ⟨rfl, hd, _, h⟩ := s.write8_mem_cases a v
    · exact .inl (by rw [h]; rfl)
    · have hsp : s.sp - 1 - 1 = s.sp - 2 := by bv_omega
      exact .inr ⟨rfl, v, (s.dispatches_iff v).mp hd,
        .inl ⟨_, h, rfl, interruptVector_mem hv, hsp, stackTop_push16 _ s.pc⟩⟩
    · exact .inr ⟨rfl, v, (s.dispatches_iff v).mp hd, .inr ⟨_, h⟩⟩
  | reg8 n => exact .inl (State.setReg8_ime s n v)
  | none => exact .inl rfl
  | reg16 n => exact .inl rfl
  | imm8 v => exact .inl rfl
  | imm16 v => exact .inl rfl

@[simp] theorem State.write16_ime (s : State) (d : Desc) (v : Word) : (s.write16 d v).ime = s.ime := by
  cases d with
  | reg16 n => exact State.setReg16_ime s n v
  | mem a => rfl
  | none => rfl
  | reg8 n => rfl
  | imm8 v => rfl
  | imm16 v => rfl

/-- A step of HL after a store keeps what the store's effect was to IME, PC and the stack (R269). -/
theorem Effect.Dispatched.andThen_hl {s : State} {e : Effect} (f : State → Word) (h : e.Dispatched s) :
    (e.andThen fun t => .done (t.setReg16 .hl (f t))).Dispatched s := by
  obtain ⟨v, hv, ⟨u, rfl, hu⟩ | ⟨u, rfl⟩⟩ := h
  · exact ⟨v, hv, .inl ⟨_, rfl, hu⟩⟩
  · exact ⟨v, hv, .inr ⟨u, rfl⟩⟩

theorem Effect.andThen_hl_ime (e : Effect) (f : State → Word) :
    (e.andThen fun t => .done (t.setReg16 .hl (f t))).state.ime = e.state.ime := by
  cases e <;> rfl

/-- A body that leaves IME. -/
def Body.KeepsIme (body : Body) : Prop := ∀ (src dst : Desc) (s : State), (body src dst s).state.ime = s.ime

/-- A body that leaves IME, unless it dispatches by a store through its destination at 0xFF0F. -/
def Body.ImeByStore (body : Body) : Prop :=
  ∀ (src dst : Desc) (s : State), (body src dst s).state.ime = s.ime ∨
    (dst = .mem ifAddr ∧ (body src dst s).Dispatched s)

/-- A store after a write of the flags: that write is to neither IME nor the stack. -/
theorem State.write8_ime_flags (s : State) (z n h c : Bool) (d : Desc) (v : Byte) :
    ((s.setFlags z n h c).write8 d v).state.ime = s.ime ∨
      (d = .mem ifAddr ∧ ((s.setFlags z n h c).write8 d v).Dispatched s) :=
  (s.setFlags z n h c).write8_ime d v

/-- A store and then a step of HL. -/
theorem State.write8_ime_hl (s : State) (d : Desc) (v : Byte) (f : State → Word) :
    ((s.write8 d v).andThen fun t => .done (t.setReg16 .hl (f t))).state.ime = s.ime ∨
      (d = .mem ifAddr ∧ ((s.write8 d v).andThen fun t => .done (t.setReg16 .hl (f t))).Dispatched s) := by
  obtain h | ⟨hd, h⟩ := s.write8_ime d v
  · exact .inl ((Effect.andThen_hl_ime _ f).trans h)
  · exact .inr ⟨hd, h.andThen_hl f⟩

@[simp] theorem ld8Body_imeByStore : Body.ImeByStore ld8Body := fun _ _ s => s.write8_ime _ _
@[simp] theorem ldiBody_imeByStore : Body.ImeByStore ldiBody := fun _ _ s => s.write8_ime_hl _ _ _
@[simp] theorem lddBody_imeByStore : Body.ImeByStore lddBody := fun _ _ s => s.write8_ime_hl _ _ _
@[simp] theorem addBody_imeByStore : Body.ImeByStore addBody := fun _ _ s => s.write8_ime_flags _ _ _ _ _ _
@[simp] theorem adcBody_imeByStore : Body.ImeByStore adcBody := fun _ _ s => s.write8_ime_flags _ _ _ _ _ _
@[simp] theorem subBody_imeByStore : Body.ImeByStore subBody := fun _ _ s => s.write8_ime_flags _ _ _ _ _ _
@[simp] theorem sbcBody_imeByStore : Body.ImeByStore sbcBody := fun _ _ s => s.write8_ime_flags _ _ _ _ _ _
@[simp] theorem andBody_imeByStore : Body.ImeByStore andBody := fun _ _ s => s.write8_ime_flags _ _ _ _ _ _
@[simp] theorem xorBody_imeByStore : Body.ImeByStore xorBody := fun _ _ s => s.write8_ime_flags _ _ _ _ _ _
@[simp] theorem orBody_imeByStore : Body.ImeByStore orBody := fun _ _ s => s.write8_ime_flags _ _ _ _ _ _
@[simp] theorem incBody_imeByStore : Body.ImeByStore incBody := fun _ _ s => s.write8_ime_flags _ _ _ _ _ _
@[simp] theorem decBody_imeByStore : Body.ImeByStore decBody := fun _ _ s => s.write8_ime_flags _ _ _ _ _ _
@[simp] theorem daaBody_imeByStore : Body.ImeByStore daaBody := fun _ _ s => s.write8_ime_flags _ _ _ _ _ _
@[simp] theorem cplBody_imeByStore : Body.ImeByStore cplBody := fun _ _ s => s.write8_ime_flags _ _ _ _ _ _
@[simp] theorem rlcaBody_imeByStore : Body.ImeByStore rlcaBody := fun _ _ s => s.write8_ime_flags _ _ _ _ _ _
@[simp] theorem rrcaBody_imeByStore : Body.ImeByStore rrcaBody := fun _ _ s => s.write8_ime_flags _ _ _ _ _ _
@[simp] theorem rlaBody_imeByStore : Body.ImeByStore rlaBody := fun _ _ s => s.write8_ime_flags _ _ _ _ _ _
@[simp] theorem rraBody_imeByStore : Body.ImeByStore rraBody := fun _ _ s => s.write8_ime_flags _ _ _ _ _ _
@[simp] theorem rotBody_imeByStore (f : Byte → Bool → Byte × Bool) : Body.ImeByStore (rotBody f) :=
  fun _ _ s => s.write8_ime_flags _ _ _ _ _ _
@[simp] theorem resBody_imeByStore (b : Nat) : Body.ImeByStore (resBody b) := fun _ _ s => s.write8_ime _ _
@[simp] theorem setBody_imeByStore (b : Nat) : Body.ImeByStore (setBody b) := fun _ _ s => s.write8_ime _ _
@[simp] theorem nopBody_keepsIme : Body.KeepsIme nopBody := fun _ _ _ => rfl
@[simp] theorem pushBody_keepsIme : Body.KeepsIme pushBody := fun _ _ _ => rfl
@[simp] theorem cpBody_keepsIme : Body.KeepsIme cpBody := fun _ _ _ => rfl
@[simp] theorem scfBody_keepsIme : Body.KeepsIme scfBody := fun _ _ _ => rfl
@[simp] theorem ccfBody_keepsIme : Body.KeepsIme ccfBody := fun _ _ _ => rfl
@[simp] theorem jpBody_keepsIme : Body.KeepsIme jpBody := fun _ _ _ => rfl
@[simp] theorem jrBody_keepsIme : Body.KeepsIme jrBody := fun _ _ _ => rfl
@[simp] theorem callBody_keepsIme : Body.KeepsIme callBody := fun _ _ _ => rfl
@[simp] theorem retBody_keepsIme : Body.KeepsIme retBody := fun _ _ _ => rfl
@[simp] theorem bitBody_keepsIme (b : Nat) : Body.KeepsIme (bitBody b) := fun _ _ _ => rfl
@[simp] theorem rstBody_keepsIme (n : Word) : Body.KeepsIme (rstBody n) := fun _ _ _ => rfl
@[simp] theorem ld16Body_keepsIme : Body.KeepsIme ld16Body := fun _ _ s => s.write16_ime _ _
@[simp] theorem ldHlSpBody_keepsIme : Body.KeepsIme ldHlSpBody := fun _ _ s => s.write16_ime _ _
@[simp] theorem addHlBody_keepsIme : Body.KeepsIme addHlBody := fun _ _ s => s.write16_ime _ _
@[simp] theorem inc16Body_keepsIme : Body.KeepsIme inc16Body := fun _ _ s => s.write16_ime _ _
@[simp] theorem dec16Body_keepsIme : Body.KeepsIme dec16Body := fun _ _ s => s.write16_ime _ _
@[simp] theorem addSpBody_keepsIme : Body.KeepsIme addSpBody := fun _ _ s => s.write16_ime _ _
@[simp] theorem popBody_keepsIme : Body.KeepsIme popBody := fun _ _ s => s.pop16.2.write16_ime _ _

@[simp] theorem jpCondBody_keepsIme (cc : Cond) : Body.KeepsIme (jpCondBody cc) := fun src dst s =>
  Effect.state_guarded _ State.ime (jpBody_keepsIme src dst s)
@[simp] theorem jrCondBody_keepsIme (cc : Cond) : Body.KeepsIme (jrCondBody cc) := fun src dst s =>
  Effect.state_guarded _ State.ime (jrBody_keepsIme src dst s)
@[simp] theorem callCondBody_keepsIme (cc : Cond) : Body.KeepsIme (callCondBody cc) := fun src dst s =>
  Effect.state_guarded _ State.ime (callBody_keepsIme src dst s)
@[simp] theorem retCondBody_keepsIme (cc : Cond) : Body.KeepsIme (retCondBody cc) := fun src dst s =>
  Effect.state_guarded _ State.ime (retBody_keepsIme src dst s)

/-- What an instruction can do to IME: leave it; set it, if it is `EI` or `RETI`; clear it, if it is `DI`; or dispatch by a
descriptor store to 0xFF0F, into interrupt entry or into the fatal combination. -/
inductive ImeAnswers (i : Instr) (s t : State) : Prop where
  | kept (h : t.ime = s.ime)
  | set (hi : i = .ei ∨ i = .reti) (ht : t.ime = true)
  | cleared (hi : i = .di) (ht : t.ime = false)
  | entered {v : Byte} (hb : storedBytes i s = [0xFF0F, s.sp - 1, s.sp - 2]) (ht : t.ime = false)
      (hd : dispatchable s v) (hv : (v, t.pc) ∈ vectorTable) (hsp : t.sp = s.sp - 2)
      (htop : stackTop t = s.pc + BitVec.ofNat 16 i.size)
  | raised (hb : storedBytes i s = [0xFF0F, s.sp - 1, s.sp - 2]) (hs : s.ime = true)
      (ht : t.crash = some ⟨.badInterruptCombination, i.opcode, s.icount⟩)

theorem Desc.reg8_ne_mem (n : Reg8) (a : Word) : Desc.reg8 n ≠ .mem a := nofun

/-- The stored bytes of an instruction whose memory destination is 0xFF0F. -/
theorem hookedBytes_of_mem (s : State) {a : Word} (h : Desc.mem a = .mem ifAddr) :
    hookedBytes s a = [0xFF0F, s.sp - 1, s.sp - 2] := by
  obtain rfl := Desc.mem.inj h
  rfl

/-- A table row whose body leaves IME, leaves IME. -/
theorem runRow_ime_kept {i : Instr} {size : Word} {op : Byte} {src dst : Mode} {body : Body} {s t : State}
    (hb : body.KeepsIme) (h : runRow size op src dst body s = .next t) : ImeAnswers i s t := by
  rw [runRow_eq] at h
  have hime := hb (s.resolve src).1 (s.resolve dst).1 (s.advance (size + src.bytes + dst.bytes))
  obtain he | ⟨cause, u, he, rfl⟩ := Effect.finish_cases h <;> rw [he] at hime <;> exact .kept hime

/-- What a table row does to IME whose body stores through its destination: if that is at 0xFF0F, the row's stored bytes
have to be those of one descriptor store there. -/
theorem runRow_ime_stored {i : Instr} {size : Word} {op : Byte} {src dst : Mode} {body : Body} {s t : State}
    (hb : body.ImeByStore) (hu : body.Sound) (h : runRow size op src dst body s = .next t) (hop : op = i.opcode)
    (hsize : size + src.bytes + dst.bytes = BitVec.ofNat 16 i.size)
    (hd : (s.resolve dst).1 = .mem ifAddr → storedBytes i s = [0xFF0F, s.sp - 1, s.sp - 2]) : ImeAnswers i s t := by
  subst hop
  rw [runRow_eq, hsize] at h
  have hime := hb (s.resolve src).1 (s.resolve dst).1 (s.advance (BitVec.ofNat 16 i.size))
  have hup := hu (s.resolve src).1 (s.resolve dst).1 (s.advance (BitVec.ofNat 16 i.size))
  generalize body _ _ _ = e at h hime hup
  obtain rfl | ⟨cause, u, rfl, rfl⟩ := Effect.finish_cases h
  · obtain hkept | ⟨hmem, v, hv, ⟨u, hdone, hclear, hpc, hsp, htop⟩ | ⟨u, hraise⟩⟩ := hime
    · exact .kept hkept
    · obtain rfl := Effect.done.inj hdone
      exact .entered (hd hmem) hclear hv hpc hsp htop
    · exact nomatch hraise
  · obtain hkept | ⟨hmem, v, hv, ⟨u', hdone, _⟩ | ⟨u', hraise⟩⟩ := hime
    · exact .kept hkept
    · exact nomatch hdone
    · obtain ⟨rfl, rfl⟩ := Effect.raise.inj hraise
      have hcount : u.icount = s.icount := hup.icount_eq
      exact .raised (hd hmem) hv.1 (by rw [State.enterCrashed_crash, hcount])

/-- What an instruction can do to IME. -/
theorem exec_ime {i : Instr} {s t : State} (hi : i.wf = true) (h : exec i s = .next t) : ImeAnswers i s t := by
  cases i <;> dsimp only [exec] at h <;> first
    | exact absurd hi Bool.false_ne_true
    -- a store body with a register destination
    | exact runRow_ime_stored (by simp) (by simp) h rfl rfl fun hd => absurd hd (Desc.reg8_ne_mem _ _)
    | exact runRow_ime_kept (by simp) h
    -- a store body with a memory destination
    | exact runRow_ime_stored (by simp) (by simp) h rfl rfl fun hd => hookedBytes_of_mem s hd
    -- the unset entries, `EI`, `RETI` and `DI`
    | (obtain rfl := Host.Outcome.next.inj h; exact .kept rfl)
    | (obtain rfl := Host.Outcome.next.inj h; exact .set (.inl rfl) rfl)
    | (obtain rfl := Host.Outcome.next.inj h; exact .set (.inr rfl) rfl)
    | (obtain rfl := Host.Outcome.next.inj h; exact .cleared rfl rfl)

/-- Settles O20, from what each instruction can do to IME. -/
theorem imeChangesOnlyByItsWriters : Obligations.ImeChangesOnlyByItsWriters := by
  intro i s t hi h
  cases exec_ime hi h with
  | kept hk => exact ⟨fun h0 h1 => by simp [hk, h0] at h1, fun h1 h0 => by simp [hk, h1] at h0⟩
  | set hw ht => exact ⟨fun _ _ => hw, fun _ h0 => absurd (ht.symm.trans h0) (by decide)⟩
  | cleared hw ht => exact ⟨fun _ h1 => absurd (ht.symm.trans h1) (by decide), fun _ _ => .inl hw⟩
  | entered hb ht hd hv hsp htop =>
    exact ⟨fun _ h1 => absurd (ht.symm.trans h1) (by decide), fun _ _ => .inr ⟨hb, .inl ⟨_, hd, hv, hsp, htop⟩⟩⟩
  | raised hb hs ht => exact ⟨fun h0 _ => absurd (hs.symm.trans h0) (by decide), fun _ _ => .inr ⟨hb, .inr ht⟩⟩

end Sys2Proof.Machine
end

section
/-!
SUPPORT. Proofs about memory (spec 20_memory.md R50 to R56): stores read back, the canonical form and what it determines,
and that every step keeps it.
-/

namespace Sys2Proof.Machine

/-! ### Every step keeps the canonical form (R50, R53) -/

/-- Memory changes by plain stores only, and each keeps the canonical form. -/
theorem Updates.wf_mem {s t : State} (h : Updates s t) (hs : Memory.wf s.mem = true) : Memory.wf t.mem = true := by
  induction h with
  | refl => exact hs
  | reg8 n v _ ih => rwa [State.setReg8_mem]
  | reg16 n v _ ih => rwa [State.setReg16_mem]
  | flags z n hc c _ ih => exact ih
  | pc v _ ih => exact ih
  | ime v _ ih => exact ih
  | store a v _ ih => exact State.wf_storeByte _ a v ih

theorem wf_mem_keptByParts : KeptByParts fun s => Memory.wf s.mem = true where
  updates hu hs := hu.wf_mem hs
  crash _ _ hs := hs
  serial {s} hs := by
    obtain ⟨_, h⟩ | ⟨_, _, h⟩ | ⟨_, _, h⟩ := s.serialStep_cases <;> rw [h]
    · exact hs
    · exact State.wf_storeByte s _ _ hs
    · exact State.wf_storeByte _ _ _ hs
  count _ hs := hs

/-- Settles O15: an instruction and the serial step write memory by plain stores only. -/
theorem stepKeepsMemoryCanonical : Obligations.StepKeepsMemoryCanonical :=
  fun _ _ hs h => wf_mem_keptByParts.step hs h

/-! ### Reading after a store (R52 to R54) -/

theorem State.readByte_storeWord (s : State) (a b v : Word) : (s.storeWord a v).readByte b =
    if b = a + 1 then hiByte v else if b = a then loByte v else s.readByte b := by
  rw [State.storeWord, State.readByte_storeByte, State.readByte_storeByte]

/-- Settles O27: the second byte of a word is stored at another address than the first, also across 0xFFFF. -/
theorem storesAreReadBack : Obligations.StoresAreReadBack := by
  refine ⟨State.readByte_storeByte, fun s a v => ?_⟩
  have hne : a ≠ a + 1 := by bv_omega
  have hlow : (s.storeWord a v).readByte a = loByte v := by rw [State.readByte_storeWord, if_neg hne, if_pos rfl]
  have hhigh : (s.storeWord a v).readByte (a + 1) = hiByte v := by rw [State.readByte_storeWord, if_pos rfl]
  exact ⟨hlow, hhigh, by rw [State.readWord, hlow, hhigh, wordOf_hiByte_loByte]⟩

/-! ### Canonical memories are determined by their bytes (R50) -/

theorem Memory.wfFrom_cons {low k : Nat} {v : Byte} {rest : Memory} :
    Memory.wfFrom low ((k, v) :: rest) = true ↔
      low ≤ k ∧ k < Config.addressSpaceSize ∧ v ≠ Config.fillByte ∧ Memory.wfFrom (k + 1) rest = true := by
  simp [Memory.wfFrom, and_assoc]

theorem Memory.read_cons_self (k : Nat) (v : Byte) (rest : Memory) : Memory.read ((k, v) :: rest) k = v := if_pos rfl

theorem Memory.read_cons_ne {a k : Nat} (v : Byte) (rest : Memory) (h : a ≠ k) :
    Memory.read ((k, v) :: rest) a = Memory.read rest a := if_neg h

/-- Below the first address that a canonical memory may list, it reads as unlisted. -/
theorem Memory.read_of_lt_low {low a : Nat} {m : Memory} (h : Memory.wfFrom low m = true) (ha : a < low) :
    Memory.read m a = Config.fillByte := by
  induction m generalizing low with
  | nil => rfl
  | cons c rest ih =>
    obtain ⟨k, v⟩ := c
    obtain ⟨hlow, _, _, hrest⟩ := Memory.wfFrom_cons.mp h
    rw [Memory.read_cons_ne v rest (by omega)]
    exact ih hrest (by omega)

/-- Two memories hold the same bytes in the Address Space. -/
def Memory.ReadsAs (m m' : Memory) : Prop := ∀ a < Config.addressSpaceSize, Memory.read m a = Memory.read m' a

/-- A canonical memory that reads as one with the first entry `(k, v)` cannot list only addresses above `k`. -/
theorem Memory.ReadsAs.not_above {low k : Nat} {v : Byte} {rest m : Memory}
    (h : Memory.ReadsAs ((k, v) :: rest) m) (hw : Memory.wfFrom low ((k, v) :: rest) = true) :
    ¬ Memory.wfFrom (k + 1) m = true := by
  intro hm
  obtain ⟨_, hk, hv, _⟩ := Memory.wfFrom_cons.mp hw
  have hread := h k hk
  rw [Memory.read_cons_self, Memory.read_of_lt_low hm (Nat.lt_succ_self k)] at hread
  exact hv hread

/-- Canonical memories that read alike and have the same first entry have tails that read alike. -/
theorem Memory.ReadsAs.tail {k : Nat} {v : Byte} {rest rest' : Memory}
    (h : Memory.ReadsAs ((k, v) :: rest) ((k, v) :: rest')) (hw : Memory.wfFrom (k + 1) rest = true)
    (hw' : Memory.wfFrom (k + 1) rest' = true) : Memory.ReadsAs rest rest' := by
  intro a ha
  obtain rfl | hak := eq_or_ne a k
  · rw [Memory.read_of_lt_low hw (Nat.lt_succ_self a), Memory.read_of_lt_low hw' (Nat.lt_succ_self a)]
  · have hread := h a ha
    rwa [Memory.read_cons_ne v rest hak, Memory.read_cons_ne v rest' hak] at hread

/-- Canonical memories that read alike are the same list: the smaller of two first addresses would be unlisted in the
other memory, so the first entries agree, and so do the tails. -/
theorem Memory.ReadsAs.eq {low : Nat} {m m' : Memory} (h : Memory.ReadsAs m m') (hw : Memory.wfFrom low m = true)
    (hw' : Memory.wfFrom low m' = true) : m = m' := by
  have hsymm : Memory.ReadsAs m' m := fun a ha => (h a ha).symm
  match m, m' with
  | [], [] => rfl
  | [], _ :: _ => exact absurd rfl (hsymm.not_above hw')
  | _ :: _, [] => exact absurd rfl (h.not_above hw)
  | (k, v) :: rest, (k', v') :: rest' =>
    obtain ⟨_, hk, hv, hrest⟩ := Memory.wfFrom_cons.mp hw
    obtain ⟨_, hk', hv', hrest'⟩ := Memory.wfFrom_cons.mp hw'
    obtain hlt | rfl | hgt := Nat.lt_trichotomy k k'
    · exact absurd (Memory.wfFrom_cons.mpr ⟨hlt, hk', hv', hrest'⟩) (h.not_above hw)
    · obtain rfl : v = v' := by simpa only [Memory.read_cons_self] using h k hk
      rw [(h.tail hrest hrest').eq hrest hrest']
    · exact absurd (Memory.wfFrom_cons.mpr ⟨hgt, hk, hv, hrest⟩) (hsymm.not_above hw')

/-- Settles O28: a word is an address of the Address Space, and a canonical memory is determined by its bytes there. -/
theorem canonicalMemoriesAreExtensional : Obligations.CanonicalMemoriesAreExtensional := by
  refine ⟨fun m a v => Memory.wf_write m a.toNat v (Memory.addr_lt a), fun m m' hw hw' h => ?_⟩
  have hreads : Memory.ReadsAs m m' := fun a ha => h (BitVec.ofNatLT a ha)
  exact hreads.eq hw hw'

end Sys2Proof.Machine
end

section
/-!
SUPPORT. The memory frame (spec 20_memory.md R53, R56, 60_exceptions.md R266, 40_engine.md R137): the bytes that a write
through a descriptor, a push, a body and a table row can change.
-/

namespace Sys2Proof.Machine

open Sys2Proof.Claims

/-! ### What the state operations leave -/

/-- The two bytes that a push stores to (R137). -/
def stackBytes (s : State) : List Word := [s.sp - 1, s.sp - 2]

theorem State.readByte_push16 (s : State) (v : Word) {a : Word} (ha : a ∉ stackBytes s) :
    (s.push16 v).readByte a = s.readByte a := by
  have hsp : s.sp - 1 - 1 = s.sp - 2 := by bv_omega
  simp only [stackBytes, List.mem_cons, List.not_mem_nil, or_false, not_or] at ha
  obtain ⟨hhigh, hlow⟩ := ha
  rw [State.push16_eq, hsp, State.readByte_storeByte, if_neg hlow, State.readByte_storeByte, if_neg hhigh]
  rfl

/-- The bytes that an 8-bit write through a descriptor can change (R111). -/
def Desc.byteStored (d : Desc) (s : State) : List Word :=
  match d with
  | .mem a => hookedBytes s a
  | _ => []

/-- The bytes that a 16-bit write through a descriptor can change (R113). -/
def Desc.wordStored (d : Desc) : List Word :=
  match d with
  | .mem a => [a, a + 1]
  | _ => []

theorem not_mem_hookedBytes_ifAddr {s : State} {a : Word} :
    a ∉ hookedBytes s ifAddr ↔ a ≠ ifAddr ∧ a ∉ stackBytes s := by
  simp [hookedBytes, ifAddr, stackBytes]

theorem ne_of_not_mem_hookedBytes {s : State} {a b : Word} (h : a ∉ hookedBytes s b) : a ≠ b := by
  rintro rfl
  unfold hookedBytes at h
  split at h <;> exact h List.mem_cons_self

/-- Interrupt entry stores to IF and pushes PC (R266). -/
theorem State.readByte_entry (s : State) {a : Word} (ha : a ∉ hookedBytes s ifAddr) :
    (((s.storeByte ifAddr 0).setIme false).push16 s.pc).readByte a = s.readByte a := by
  obtain ⟨hif, hstack⟩ := not_mem_hookedBytes_ifAddr.mp ha
  calc (((s.storeByte ifAddr 0).setIme false).push16 s.pc).readByte a
      = (s.storeByte ifAddr 0).readByte a := State.readByte_push16 _ _ hstack
    _ = s.readByte a := by rw [State.readByte_storeByte, if_neg hif]

theorem State.readByte_write8 (s : State) {d : Desc} (v : Byte) {a : Word} (ha : a ∉ d.byteStored s) :
    (s.write8 d v).state.readByte a = s.readByte a := by
  cases d with
  | mem b =>
    obtain h | ⟨rfl, _, _, _, h⟩ | ⟨rfl, _, _, h⟩ := s.write8_mem_cases b v <;> rw [h]
    · exact (s.readByte_storeByte b a v).trans (if_neg (ne_of_not_mem_hookedBytes ha))
    · exact s.readByte_entry ha
    · exact s.readByte_entry ha
  | reg8 n => exact s.setReg8_readByte n v a
  | none => rfl
  | reg16 n => rfl
  | imm8 v => rfl
  | imm16 v => rfl

theorem State.readByte_write16 (s : State) {d : Desc} (v : Word) {a : Word} (ha : a ∉ d.wordStored) :
    (s.write16 d v).readByte a = s.readByte a := by
  cases d with
  | mem b =>
    simp only [Desc.wordStored, List.mem_cons, List.not_mem_nil, or_false, not_or] at ha
    obtain ⟨hlow, hhigh⟩ := ha
    exact (s.readByte_storeWord b a v).trans ((if_neg hhigh).trans (if_neg hlow))
  | reg16 n => exact s.setReg16_readByte n v a
  | none => rfl
  | reg8 n => rfl
  | imm8 v => rfl
  | imm16 v => rfl

/-! ### What each body leaves -/

/-- A body leaves every byte outside `stored`, a list of addresses that may depend on its destination and on the state. -/
def Body.StoresWithin (body : Body) (stored : Desc → State → List Word) : Prop :=
  ∀ (src dst : Desc) (s : State) (a : Word), a ∉ stored dst s → (body src dst s).state.readByte a = s.readByte a

/-- A body that stores nothing. -/
abbrev Body.StoresNothing (body : Body) : Prop := body.StoresWithin fun _ _ => []

/-- A body that stores a byte through its destination. -/
abbrev Body.StoresByte (body : Body) : Prop := body.StoresWithin Desc.byteStored

/-- A body that stores a word through its destination. -/
abbrev Body.StoresWord (body : Body) : Prop := body.StoresWithin fun dst _ => dst.wordStored

/-- A body that pushes a word if a condition on the state holds. -/
abbrev Body.PushesIf (body : Body) (p : State → Bool) : Prop :=
  body.StoresWithin fun _ s => if p s then stackBytes s else []

/-- A body that pushes a word. -/
abbrev Body.Pushes (body : Body) : Prop := body.StoresWithin fun _ s => stackBytes s

/-- A store after a write of the flags: that write is to neither memory nor SP. -/
theorem State.readByte_write8_flags (s : State) (z n h c : Bool) {d : Desc} (v : Byte) {a : Word}
    (ha : a ∉ d.byteStored s) : ((s.setFlags z n h c).write8 d v).state.readByte a = s.readByte a :=
  (s.setFlags z n h c).readByte_write8 v (d := d) (by cases d <;> exact ha)

theorem Effect.andThen_hl_readByte (e : Effect) (f : State → Word) (a : Word) :
    (e.andThen fun t => .done (t.setReg16 .hl (f t))).state.readByte a = e.state.readByte a := by
  cases e <;> rfl

@[simp] theorem ld8Body_storesByte : Body.StoresByte ld8Body := fun _ _ s _ => s.readByte_write8 _
@[simp] theorem ldiBody_storesByte : Body.StoresByte ldiBody := fun _ _ s _ ha =>
  (Effect.andThen_hl_readByte _ _ _).trans (s.readByte_write8 _ ha)
@[simp] theorem lddBody_storesByte : Body.StoresByte lddBody := fun _ _ s _ ha =>
  (Effect.andThen_hl_readByte _ _ _).trans (s.readByte_write8 _ ha)
@[simp] theorem addBody_storesByte : Body.StoresByte addBody := fun _ _ s _ => s.readByte_write8_flags _ _ _ _ _
@[simp] theorem adcBody_storesByte : Body.StoresByte adcBody := fun _ _ s _ => s.readByte_write8_flags _ _ _ _ _
@[simp] theorem subBody_storesByte : Body.StoresByte subBody := fun _ _ s _ => s.readByte_write8_flags _ _ _ _ _
@[simp] theorem sbcBody_storesByte : Body.StoresByte sbcBody := fun _ _ s _ => s.readByte_write8_flags _ _ _ _ _
@[simp] theorem andBody_storesByte : Body.StoresByte andBody := fun _ _ s _ => s.readByte_write8_flags _ _ _ _ _
@[simp] theorem xorBody_storesByte : Body.StoresByte xorBody := fun _ _ s _ => s.readByte_write8_flags _ _ _ _ _
@[simp] theorem orBody_storesByte : Body.StoresByte orBody := fun _ _ s _ => s.readByte_write8_flags _ _ _ _ _
@[simp] theorem incBody_storesByte : Body.StoresByte incBody := fun _ _ s _ => s.readByte_write8_flags _ _ _ _ _
@[simp] theorem decBody_storesByte : Body.StoresByte decBody := fun _ _ s _ => s.readByte_write8_flags _ _ _ _ _
@[simp] theorem daaBody_storesByte : Body.StoresByte daaBody := fun _ _ s _ => s.readByte_write8_flags _ _ _ _ _
@[simp] theorem cplBody_storesByte : Body.StoresByte cplBody := fun _ _ s _ => s.readByte_write8_flags _ _ _ _ _
@[simp] theorem rlcaBody_storesByte : Body.StoresByte rlcaBody := fun _ _ s _ => s.readByte_write8_flags _ _ _ _ _
@[simp] theorem rrcaBody_storesByte : Body.StoresByte rrcaBody := fun _ _ s _ => s.readByte_write8_flags _ _ _ _ _
@[simp] theorem rlaBody_storesByte : Body.StoresByte rlaBody := fun _ _ s _ => s.readByte_write8_flags _ _ _ _ _
@[simp] theorem rraBody_storesByte : Body.StoresByte rraBody := fun _ _ s _ => s.readByte_write8_flags _ _ _ _ _
@[simp] theorem rotBody_storesByte (f : Byte → Bool → Byte × Bool) : Body.StoresByte (rotBody f) :=
  fun _ _ s _ => s.readByte_write8_flags _ _ _ _ _
@[simp] theorem resBody_storesByte (b : Nat) : Body.StoresByte (resBody b) := fun _ _ s _ => s.readByte_write8 _
@[simp] theorem setBody_storesByte (b : Nat) : Body.StoresByte (setBody b) := fun _ _ s _ => s.readByte_write8 _

@[simp] theorem ld16Body_storesWord : Body.StoresWord ld16Body := fun _ _ s _ => s.readByte_write16 _
@[simp] theorem ldHlSpBody_storesWord : Body.StoresWord ldHlSpBody := fun _ _ s _ => s.readByte_write16 _
@[simp] theorem popBody_storesWord : Body.StoresWord popBody := fun _ _ s _ => s.pop16.2.readByte_write16 _
@[simp] theorem addHlBody_storesWord : Body.StoresWord addHlBody := fun _ _ s _ => s.readByte_write16 _
@[simp] theorem inc16Body_storesWord : Body.StoresWord inc16Body := fun _ _ s _ => s.readByte_write16 _
@[simp] theorem dec16Body_storesWord : Body.StoresWord dec16Body := fun _ _ s _ => s.readByte_write16 _
@[simp] theorem addSpBody_storesWord : Body.StoresWord addSpBody := fun _ _ s _ => s.readByte_write16 _

@[simp] theorem pushBody_pushes : Body.Pushes pushBody := fun _ _ s _ => s.readByte_push16 _
@[simp] theorem callBody_pushes : Body.Pushes callBody := fun _ _ s _ => s.readByte_push16 _
@[simp] theorem rstBody_pushes (n : Word) : Body.Pushes (rstBody n) := fun _ _ s _ => s.readByte_push16 _
@[simp] theorem callCondBody_pushesIf (cc : Cond) : Body.PushesIf (callCondBody cc) fun s => s.holds cc := by
  intro src dst s a ha
  unfold callCondBody
  cases hc : s.holds cc with
  | true => exact callBody_pushes src dst s a (by simpa [hc] using ha)
  | false => rfl

@[simp] theorem nopBody_storesNothing : Body.StoresNothing nopBody := fun _ _ _ _ _ => rfl
@[simp] theorem diBody_storesNothing : Body.StoresNothing diBody := fun _ _ _ _ _ => rfl
@[simp] theorem eiBody_storesNothing : Body.StoresNothing eiBody := fun _ _ _ _ _ => rfl
@[simp] theorem cpBody_storesNothing : Body.StoresNothing cpBody := fun _ _ _ _ _ => rfl
@[simp] theorem scfBody_storesNothing : Body.StoresNothing scfBody := fun _ _ _ _ _ => rfl
@[simp] theorem ccfBody_storesNothing : Body.StoresNothing ccfBody := fun _ _ _ _ _ => rfl
@[simp] theorem bitBody_storesNothing (b : Nat) : Body.StoresNothing (bitBody b) := fun _ _ _ _ _ => rfl
@[simp] theorem jpBody_storesNothing : Body.StoresNothing jpBody := fun _ _ _ _ _ => rfl
@[simp] theorem jrBody_storesNothing : Body.StoresNothing jrBody := fun _ _ _ _ _ => rfl
@[simp] theorem retBody_storesNothing : Body.StoresNothing retBody := fun _ _ _ _ _ => rfl
@[simp] theorem retiBody_storesNothing : Body.StoresNothing retiBody := fun _ _ _ _ _ => rfl
@[simp] theorem jpCondBody_storesNothing (cc : Cond) : Body.StoresNothing (jpCondBody cc) := fun src dst s a ha =>
  Effect.state_guarded _ (fun t => t.readByte a) (jpBody_storesNothing src dst s a ha)
@[simp] theorem jrCondBody_storesNothing (cc : Cond) : Body.StoresNothing (jrCondBody cc) := fun src dst s a ha =>
  Effect.state_guarded _ (fun t => t.readByte a) (jrBody_storesNothing src dst s a ha)
@[simp] theorem retCondBody_storesNothing (cc : Cond) : Body.StoresNothing (retCondBody cc) := fun src dst s a ha =>
  Effect.state_guarded _ (fun t => t.readByte a) (retBody_storesNothing src dst s a ha)

/-! ### What each instruction leaves -/

/-- A table row leaves every byte that its body leaves, crashed or not. -/
theorem runRow_frame {stored : Desc → State → List Word} {size : Word} {op : Byte} {src dst : Mode} {body : Body}
    {s t : State} {a : Word} (hb : body.StoresWithin stored) (h : runRow size op src dst body s = .next t)
    (ha : a ∉ stored (s.resolve dst).1 (s.advance (size + src.bytes + dst.bytes))) : t.readByte a = s.readByte a := by
  rw [runRow_eq] at h
  have hread := hb (s.resolve src).1 _ _ a ha
  obtain he | ⟨cause, u, he, rfl⟩ := Effect.finish_cases h <;> rw [he] at hread <;> exact hread

/-- Settles O22: the stored bytes of each instruction are those of its row's body on its row's destination. -/
theorem memoryFrame : Obligations.MemoryFrame := by
  intro i s t a hi h ha
  cases i <;> dsimp only [exec] at h <;> first
    | exact absurd hi Bool.false_ne_true
    -- a byte through the destination
    | exact runRow_frame (stored := Desc.byteStored) (by simp) h ha
    -- nothing
    | exact runRow_frame (stored := fun _ _ => []) (by simp) h ha
    -- a word through the destination
    | exact runRow_frame (stored := fun dst _ => dst.wordStored) (by simp) h ha
    -- a push
    | exact runRow_frame (stored := fun _ s => stackBytes s) (by simp) h ha
    -- a push under a condition
    | exact runRow_frame (callCondBody_pushesIf _) h ha
    -- an unset entry
    | (obtain rfl := Host.Outcome.next.inj h; rfl)

end Sys2Proof.Machine
end

section
/-!
SUPPORT. Proofs about the encoding (spec 30_encoding.md R80 to R89): the decoder and the encoder undo each other, the fields
of an extended opcode byte, and the thirteen unset bytes.
-/

namespace Sys2Proof

open Sys2Proof.Machine Sys2Proof.Claims

/-! ### Decoding an encoding -/

/-- The bytes of every well-formed instruction decode to it: the decoder computes on the closed opcode bytes, and an operand
word is its two halves joined. -/
theorem decode_encode (i : Instr) : Laws.RoundTrip.Statement i := by
  cases i
  case prefix_CB => exact nofun
  case ld_BC_d16 | ld_DE_d16 | ld_HL_d16 | ld_SP_d16 | ld_indA16_SP | ld_indA16_A | ld_A_indA16
      | jp_a16 | jp_NZ_a16 | jp_Z_a16 | jp_NC_a16 | jp_C_a16
      | call_a16 | call_NZ_a16 | call_Z_a16 | call_NC_a16 | call_C_a16 =>
    exact fun _ => decode_of_joined _ _ fun _ => rfl
  all_goals exact fun _ _ => rfl

/-- Settles O2: an instruction without an operand word is read off its bytes, one with an operand word joins its halves. -/
theorem decodeEncodeRoundTrip : Obligations.DecodeEncodeRoundTrip := fun i rest hi => decode_encode i hi rest

/-! ### Encoding what was decoded -/

/-- The operand bytes of a primary row's instruction, a word low byte first (R81, R86). -/
def Row.operands (r : Row) (b1 b2 : Byte) : List Byte :=
  match r with
  | .plain _ => []
  | .byte _ => [b1]
  | .word _ => [loByte (wordOf b2 b1), hiByte (wordOf b2 b1)]

/-- The operand bytes are the first of the bytes that the row was filled with. -/
theorem Row.operands_prefix (r : Row) (b1 b2 : Byte) : r.operands b1 b2 <+: [b1, b2] := by
  cases r with
  | plain i => exact ⟨[b1, b2], rfl⟩
  | byte f => exact ⟨[b2], rfl⟩
  | word f => exact ⟨[], by simp [Row.operands]⟩

/-- The table form and the field form of the primary table agree, row by row (R84, R85). -/
theorem encode_primaryRow (op b1 b2 : Byte) :
    encode ((primaryRow op).fill b1 b2) = op :: (primaryRow op).operands b1 b2 := by
  obtain ⟨k, hk, rfl⟩ : ∃ k < 256, op = BitVec.ofNat 8 k := ⟨op.toNat, op.isLt, by simp⟩
  interval_cases k <;> rfl

/-- The two forms of the extended table agree, row by row (R83). -/
theorem encode_extendedInstr : ∀ op : Byte, encode (extendedInstr op) = [extPrefix, op] := by decide +kernel

/-- What the decoder reads from three bytes is encoded by the first of them. -/
theorem encode_decodeWindow_prefix (b0 b1 b2 : Byte) : encode (decodeWindow b0 b1 b2) <+: [b0, b1, b2] := by
  rw [decodeWindow_eq]
  split
  next h => rw [encode_extendedInstr, h]; exact ⟨[b2], rfl⟩
  next => rw [encode_primaryRow]; exact List.cons_prefix_cons.mpr ⟨rfl, Row.operands_prefix _ _ _⟩

/-- Settles O3: the bytes are an opcode, the operand bytes of its row, and what follows. -/
theorem everyWindowEncodesItsInstruction : Obligations.EveryWindowEncodesItsInstruction := by
  intro b0 b1 b2
  obtain ⟨rest, h⟩ := encode_decodeWindow_prefix b0 b1 b2
  exact ⟨(decodeWindow_opcode b0 b1 b2).1, rest, h.symm⟩

/-! ### The fields of an extended opcode byte (R82, R83) -/

@[simp] theorem R8.ofCode_r8Index (r : R8) : R8.ofCode (r8Index r) = r := by cases r <;> rfl
@[simp] theorem RotOp.ofCode_rotIndex (op : RotOp) : RotOp.ofCode (rotIndex op) = op := by cases op <;> rfl
@[simp] theorem Idx3.ofCode_toNat (b : Idx3) : Idx3.ofCode b.toNat = b := by cases b <;> rfl

theorem r8Index_lt (r : R8) : r8Index r < 8 := by cases r <;> decide
theorem rotIndex_lt (op : RotOp) : rotIndex op < 8 := by cases op <;> decide
theorem Idx3.toNat_lt (b : Idx3) : b.toNat < 8 := by cases b <;> decide

/-- A byte made from a group, `y` and `z` has these fields. -/
theorem fields_opByte {n x y z : Nat} (hx : x < 4) (hy : y < 8) (hz : z < 8) (hn : n = 64 * x + 8 * y + z) :
    fieldX (opByte n) = x ∧ fieldY (opByte n) = y ∧ fieldZ (opByte n) = z := by
  simp only [fieldX, fieldY, fieldZ, opByte, BitVec.extractLsb'_toNat, BitVec.toNat_ofNat, Nat.shiftRight_eq_div_pow]
  omega

theorem extendedInstr_rot (op : RotOp) (r : R8) :
    extendedInstr (opByte (8 * rotIndex op + r8Index r)) = Instr.rot op r := by
  obtain ⟨hx, hy, hz⟩ := fields_opByte (n := 8 * rotIndex op + r8Index r) (x := 0) (by decide) (rotIndex_lt op)
    (r8Index_lt r) (by omega)
  simp [extendedInstr, hx, hy, hz]

theorem extendedInstr_bit (b : Idx3) (r : R8) :
    extendedInstr (opByte (0x40 + 8 * b.toNat + r8Index r)) = Instr.bit b r := by
  obtain ⟨hx, hy, hz⟩ := fields_opByte (x := 1) (by decide) b.toNat_lt (r8Index_lt r) rfl
  simp [extendedInstr, hx, hy, hz]

theorem extendedInstr_res (b : Idx3) (r : R8) :
    extendedInstr (opByte (0x80 + 8 * b.toNat + r8Index r)) = Instr.res b r := by
  obtain ⟨hx, hy, hz⟩ := fields_opByte (x := 2) (by decide) b.toNat_lt (r8Index_lt r) rfl
  simp [extendedInstr, hx, hy, hz]

theorem extendedInstr_set (b : Idx3) (r : R8) :
    extendedInstr (opByte (0xC0 + 8 * b.toNat + r8Index r)) = Instr.set b r := by
  obtain ⟨hx, hy, hz⟩ := fields_opByte (x := 3) (by decide) b.toNat_lt (r8Index_lt r) rfl
  simp [extendedInstr, hx, hy, hz]

/-- No entry of the extended table is unset (R83, R88). -/
theorem extendedInstr_isUnset : ∀ op : Byte, Instr.isUnset (extendedInstr op) = false := by decide +kernel

theorem isUnset_of_mem_unsetInstrs : ∀ i ∈ unsetInstrs, Instr.isUnset i = true := by decide

/-- Settles O4: each instruction of a group stands in the extended table at the byte of its fields. -/
theorem extendedOpcodesFollowTheirFields : Obligations.ExtendedOpcodesFollowTheirFields := by
  refine ⟨fun op r => ?_, fun b r => ?_, fun b r => ?_, fun b r => ?_, fun op => ⟨encode_extendedInstr op, fun h => ?_⟩⟩
  · rw [← extendedInstr_rot]; exact encode_extendedInstr _
  · rw [← extendedInstr_bit]; exact encode_extendedInstr _
  · rw [← extendedInstr_res]; exact encode_extendedInstr _
  · rw [← extendedInstr_set]; exact encode_extendedInstr _
  · exact Bool.false_ne_true ((extendedInstr_isUnset op).symm.trans (isUnset_of_mem_unsetInstrs _ h))

/-! ### Words written out from the encodings -/

/-- Settles O1: each string is its opcode byte, found in the table by its fields, and its operand bytes. -/
theorem writtenWordsDecode : Obligations.WrittenWordsDecode :=
  ⟨rfl, rfl, rfl, rfl, rfl, rfl, rfl, rfl, rfl, rfl, rfl, rfl, rfl⟩

end Sys2Proof

namespace Sys2Proof.Machine

open Sys2Proof.Claims

/-! ### The unknown-opcode crash (R88, R262) -/

/-- The thirteen unset bytes of the primary table (R88). -/
def unsetBytes : List Byte := [0x10, 0x76, 0xD3, 0xDB, 0xDD, 0xE3, 0xE4, 0xEB, 0xEC, 0xED, 0xF4, 0xFC, 0xFD]

/-- A primary row is unset exactly at one of the thirteen bytes. -/
theorem primaryRow_isUnset (op b1 b2 : Byte) :
    Instr.isUnset ((primaryRow op).fill b1 b2) = decide (op ∈ unsetBytes) := by
  obtain ⟨k, hk, rfl⟩ : ∃ k < 256, op = BitVec.ofNat 8 k := ⟨op.toNat, op.isLt, by simp⟩
  interval_cases k <;> rfl

/-- The decoder reads an unset instruction exactly where the first byte is one of the thirteen; the prefix byte is none of
them. -/
theorem decodeWindow_isUnset (b0 b1 b2 : Byte) : Instr.isUnset (decodeWindow b0 b1 b2) = decide (b0 ∈ unsetBytes) := by
  rw [decodeWindow_eq]
  split
  next h => rw [h, extendedInstr_isUnset]; rfl
  next => exact primaryRow_isUnset b0 b1 b2

/-- Execute at one of the thirteen bytes, whatever follows it (R262). -/
theorem exec_decodeWindow_unset {op : Byte} (h : op ∈ unsetBytes) (b1 b2 : Byte) (s : State) :
    exec (decodeWindow op b1 b2) s = .next (s.enterCrashed .unknownOpcode op) := by
  fin_cases h <;> rfl

/-- An instruction that is not unset cannot raise the unknown-opcode crash. -/
theorem Answers.cause_ne_unknownOpcode {i : Instr} {s u : State} {r : CrashRecord} (h : Answers i s u)
    (hs : s.crash = none) (hi : Instr.isUnset i = false) (hr : u.crash = some r) : r.cause ≠ .unknownOpcode := by
  cases h with
  | completes hu => exact nomatch hs.symm.trans (hu.crash_eq.symm.trans hr)
  | unset hset => exact absurd (hi.symm.trans hset) Bool.false_ne_true
  | raises hu _ => obtain rfl := Option.some.inj hr; nofun

/-- What follows Execute crashes only by a stalled PC (R263). -/
theorem State.retire_crash {t : State} {opAddr : Word} {op : Byte} {r : CrashRecord}
    (h : (t.retire opAddr op).crash = some r) : t.crash = some r ∨ r.cause = .stalledPC := by
  obtain ⟨_, hr⟩ | ⟨_, _, hr⟩ | ⟨_, _, hr⟩ := t.retire_cases opAddr op <;> rw [hr] at h
  · exact .inl h
  · obtain rfl := Option.some.inj h; exact .inr rfl
  · exact .inl ((State.serialStep_crash t).symm.trans h)

/-- Settles O11: the crash is the answer of the instruction that the byte selects, and what follows Execute adds no other
crash than a stalled PC. -/
theorem unknownOpcodeExactlyForUnsetBytes : Obligations.UnknownOpcodeExactlyForUnsetBytes := by
  intro s hs unset
  refine ⟨fun hop => ?_, fun hop t r h hr => ?_⟩
  · exact step_of_exec hs (exec_decodeWindow_unset hop _ _ s)
  · obtain ⟨u, hu, rfl⟩ := step_answers hs h
    obtain hcrash | hstalled := State.retire_crash hr
    · exact hu.cause_ne_unknownOpcode hs ((decodeWindow_isUnset _ _ _).trans (decide_eq_false hop)) hcrash
    · rw [hstalled]; nofun

end Sys2Proof.Machine
end

section
/-!
SUPPORT. Proofs about the step machine (spec 40_engine.md R115 to R119): every step and every instruction answers a next
state, what follows Execute, the Crashed state, and PC after a crash.
-/

namespace Sys2Proof.Machine

open Sys2Proof.Claims

/-! ### A next state always (R115, R260) -/

theorem runRow_next (size : Word) (op : Byte) (src dst : Mode) (body : Body) (s : State) :
    ∃ t, runRow size op src dst body s = .next t := Effect.finish_next _ op

/-- Every arm of the dispatch is a table row or an unset entry, and both end in a next state. -/
theorem exec_next (i : Instr) (s : State) : ∃ t, exec i s = .next t := by
  cases i <;> dsimp only [exec] <;> first
    | exact runRow_next _ _ _ _ _ s
    -- an unset entry
    | exact ⟨_, rfl⟩

/-- A step answers what follows Execute, or the same state once Crashed. -/
theorem step_next (s : State) : ∃ t, step s = .next t := by
  cases hc : s.crash with
  | some r => exact ⟨s, step_crashed (by rw [hc]; rfl)⟩
  | none =>
    obtain ⟨u, hu⟩ := exec_next s.fetchInstr s
    exact ⟨_, step_of_exec hc hu⟩

/-- Settles O7: no arm of the dispatch and no branch of the step answers a fault or a refusal. -/
theorem stepAlwaysAnswersNext : Obligations.StepAlwaysAnswersNext := ⟨step_next, exec_next⟩

/-- Settles O6, by the step's first branch. -/
theorem crashedStepIsIdentity : Obligations.CrashedStepIsIdentity :=
  fun _ h => step_crashed (Option.isSome_iff_ne_none.mpr h)

/-! ### The decoded instruction, then what follows Execute (R115, R263) -/

/-- The step at a state that is not Crashed, in terms of the instruction the bytes at PC decode to. -/
theorem step_of_decode {s t : State} {i : Instr} {rest : List Byte} (hs : s.crash = none)
    (hd : decode (windowAt s) = .ok (i, rest)) (h : exec i s = .next t) :
    step s = .next (t.retire s.pc i.opcode) := by
  have hi : s.fetchInstr = i := decodeWindow_of_decode hd
  subst hi
  rw [step_of_exec hs h, s.fetchInstr_opcode]

/-- Settles O5: the three ways what follows Execute can go are the three clauses, each shut out of the other two by
CRASH and PC. -/
theorem stepRunsDecodedInstruction : Obligations.StepRunsDecodedInstruction := by
  intro s t i rest hs hd h
  have hstep := step_of_decode hs hd h
  rw [State.serialStep_pc]
  obtain ⟨hc, hr⟩ | ⟨hc, hp, hr⟩ | ⟨hc, hp, hr⟩ := t.retire_cases s.pc i.opcode <;> rw [hr] at hstep
  · exact ⟨fun _ => hstep, fun hnone => absurd hnone hc, fun hnone => absurd hnone hc⟩
  · rw [← t.serialStep_icount]
    exact ⟨absurd hc, fun _ _ => hstep, fun _ hne => absurd hp hne⟩
  · exact ⟨absurd hc, fun _ heq => absurd heq hp, fun _ _ => hstep⟩

/-! ### PC after a crash (R119, R263, R264) -/

/-- An instruction that crashes is an unset entry, with PC at its own address, or raised the fatal combination, with PC
at the next sequential instruction. -/
theorem Answers.crash_pc {i : Instr} {s u : State} {r : CrashRecord} (h : Answers i s u) (hs : s.crash = none)
    (hr : u.crash = some r) :
    (r.cause = .unknownOpcode ∧ u.pc = s.pc) ∨
    (r.cause = .badInterruptCombination ∧ u.pc = s.pc + BitVec.ofNat 16 i.size) := by
  cases h with
  | completes hu => exact nomatch hs.symm.trans (hu.crash_eq.symm.trans hr)
  | unset _ => obtain rfl := Option.some.inj hr; exact .inl ⟨rfl, rfl⟩
  | raises _ hpc => obtain rfl := Option.some.inj hr; exact .inr ⟨rfl, hpc⟩

/-- A step that crashes: the instruction crashed, or what follows it found PC where the instruction stands. -/
theorem step_crash_pc {s t : State} {r : CrashRecord} (hs : s.crash = none) (h : step s = .next t)
    (hr : t.crash = some r) :
    (r.cause = .unknownOpcode ∧ t.pc = s.pc) ∨ (r.cause = .stalledPC ∧ t.pc = s.pc) ∨
    (r.cause = .badInterruptCombination ∧ t.pc = s.pc + BitVec.ofNat 16 s.fetchInstr.size) := by
  obtain ⟨u, hu, rfl⟩ := step_answers hs h
  obtain ⟨_, ht⟩ | ⟨_, hp, ht⟩ | ⟨hc, _, ht⟩ := u.retire_cases s.pc s.fetchOpcode <;> rw [ht] at hr ⊢
  · exact (hu.crash_pc hs hr).imp_right .inr
  · obtain rfl := Option.some.inj hr
    exact .inr (.inl ⟨rfl, u.serialStep_pc.trans hp⟩)
  · exact nomatch hc.symm.trans (u.serialStep_crash.symm.trans hr)

/-- Settles O9: each cause comes with its own PC, and the causes exclude one another. -/
theorem crashLeavesPcWhereTheCauseSays : Obligations.CrashLeavesPcWhereTheCauseSays := by
  intro s t r hs h hr
  obtain ⟨hcause, hpc⟩ | ⟨hcause, hpc⟩ | ⟨hcause, hpc⟩ := step_crash_pc hs h hr <;> rw [hcause]
  · exact ⟨fun _ => hpc, nofun, nofun⟩
  · exact ⟨nofun, fun _ => hpc, nofun⟩
  · exact ⟨nofun, nofun, fun _ => hpc⟩

end Sys2Proof.Machine
end

section
/-!
SUPPORT. Proofs about the stack primitives (spec 40_engine.md R135 to R138): each as one update of the state, and a pop
after a push.
-/

namespace Sys2Proof.Machine

open Sys2Proof.Claims

/-- The word pushed, in the statements' words: both stores below SP and SP two lower (R137). -/
theorem State.push16_eq_pushed (s : State) (w : Word) : s.push16 w = pushed s w := by
  have hsp : s.sp - 1 - 1 = s.sp - 2 := by bv_omega
  rw [State.push16_eq, hsp]
  rfl

/-- A word popped: what was on top of the stack, and SP two higher (R138). -/
theorem State.pop16_eq (s : State) : s.pop16 = (stackTop s, { s with sp := s.sp + 2 }) := by
  have hsp : s.sp + 1 + 1 = s.sp + 2 := by bv_omega
  rw [← hsp]
  rfl

/-- The byte pushed last is popped first, and SP is back (R135, R136). -/
theorem State.pop8_push8 (s : State) (v : Byte) : (s.push8 v).pop8.1 = v ∧ (s.push8 v).pop8.2.sp = s.sp :=
  ⟨(State.readByte_storeByte _ _ _ v).trans (if_pos rfl), BitVec.sub_add_cancel s.sp 1⟩

/-- The word pushed last is popped first, and SP is back (R137, R138). -/
theorem State.pop16_push16 (s : State) (w : Word) : (s.push16 w).pop16.1 = w ∧ (s.push16 w).pop16.2.sp = s.sp := by
  rw [State.pop16_eq]
  refine ⟨stackTop_push16 s w, ?_⟩
  rw [State.push16_eq_pushed]
  exact BitVec.sub_add_cancel s.sp 2

/-- Settles O31; the two bytes of a pushed word are the halves of the word on top of the stack. -/
theorem pushThenPopRestores : Obligations.PushThenPopRestores := by
  intro s
  refine ⟨fun v => ⟨rfl, s.pop8_push8 v⟩, ⟨rfl, rfl⟩, fun w => ?_, by rw [State.pop16_eq]; exact ⟨rfl, rfl⟩⟩
  have htop := stackTop_push16 s w
  have hlow := (loByte_wordOf _ _).symm.trans (congrArg loByte htop)
  have hhigh := (hiByte_wordOf _ _).symm.trans (congrArg hiByte htop)
  exact ⟨s.push16_eq_pushed w, hlow, hhigh, s.pop16_push16 w⟩

end Sys2Proof.Machine
end

section
/-!
SUPPORT. The ALU primitives as integer arithmetic (spec 40_engine.md R125 to R128): results and carries as quotients and
remainders, from which the two 16-bit additions are sums mod 65536.
-/

namespace Sys2Proof.Machine

/-! ### `add8` and `sub8` (R125, R126) -/

theorem byte_beq_zero_iff (r : Byte) : (r == 0) = true ↔ r.toNat = 0 := by
  rw [beq_iff_eq, ← BitVec.toNat_inj]
  rfl

theorem toNat_add8_r (a b : Byte) (cin : Bool) :
    (add8 a b cin).r.toNat = (a.toNat + b.toNat + cin.toNat) % 256 := BitVec.toNat_ofNat _ 8

theorem add8_h_iff (a b : Byte) (cin : Bool) :
    (add8 a b cin).h = true ↔ a.toNat % 16 + b.toNat % 16 + cin.toNat > 0xF := decide_eq_true_iff

theorem add8_c_iff (a b : Byte) (cin : Bool) :
    (add8 a b cin).c = true ↔ a.toNat + b.toNat + cin.toNat > 0xFF := decide_eq_true_iff

/-- The carry of `add8` is what its result drops. -/
theorem toNat_add8_c (a b : Byte) (cin : Bool) :
    (add8 a b cin).c.toNat = (a.toNat + b.toNat + cin.toNat) / 256 := by
  have ha := a.isLt
  have hb := b.isLt
  have hcin := cin.toNat_le
  cases h : (add8 a b cin).c with
  | true =>
    have hcarry := (add8_c_iff a b cin).mp h
    rw [Bool.toNat_true]
    omega
  | false =>
    have hfits := (add8_c_iff a b cin).not.mp (Bool.not_eq_true _ ▸ h)
    rw [Bool.toNat_false]
    omega

theorem add8_comm (a b : Byte) (cin : Bool) : add8 a b cin = add8 b a cin := by
  simp only [add8, Nat.add_comm]

/-- A borrow goes below zero, and the result is what is left mod 256. -/
theorem toNat_sub8_r (a b : Byte) (bin : Bool) :
    ((sub8 a b bin).r.toNat : Int) = ((a.toNat : Int) - b.toNat - bin.toNat) % 256 := by
  rw [sub8, BitVec.toNat_ofInt]
  exact Int.toNat_of_nonneg (Int.emod_nonneg _ (by decide))

/-- Settles O32: zero is that the result's remainder is zero, the other flags are the comparisons themselves. -/
theorem byteArithmetic : Obligations.ByteArithmetic := by
  intro a b cin
  refine ⟨?_, ?_, rfl, add8_h_iff a b cin, add8_c_iff a b cin, add8_comm a b cin, toNat_sub8_r a b cin, ?_, rfl,
    decide_eq_true_iff, decide_eq_true_iff⟩
  · rw [toNat_add8_r]
    push_cast
    rfl
  · exact (byte_beq_zero_iff _).trans (by rw [← toNat_add8_r]; rfl)
  · exact (byte_beq_zero_iff _).trans (by rw [← toNat_sub8_r]; exact Int.natCast_eq_zero.symm)

/-! ### `add16` and `addrel16` (R127, R128) -/

/-- Settles O33: the carry of the low bytes is the quotient that the high bytes add. -/
theorem wordAddition : Obligations.WordAddition := by
  intro x y
  have hx := x.isLt
  have hy := y.isLt
  refine ⟨BitVec.eq_of_toNat_eq ?_, ?_, ?_⟩
  · simp only [add16, toNat_wordOf, toNat_add8_r, toNat_add8_c, toNat_hiByte, toNat_loByte, BitVec.toNat_add,
      Bool.toNat_false]
    omega
  · simp only [add16, add8_h_iff, toNat_add8_c, toNat_hiByte, toNat_loByte, Bool.toNat_false]
    omega
  · simp only [add16, add8_c_iff, toNat_add8_c, toNat_hiByte, toNat_loByte, Bool.toNat_false]
    omega

/-- A byte as a signed number mod 65536: a byte with bit 7 set stands 256 lower. -/
theorem toNat_signExtend16 (e : Byte) :
    (e.signExtend 16).toNat = e.toNat + if e.getLsbD 7 then 0xFF00 else 0 := by
  rw [BitVec.toNat_signExtend, BitVec.toNat_setWidth_of_le (by decide), BitVec.msb_eq_getLsbD_last]

/-- NOT carry subtracted from a byte: the carry added, and one less. -/
theorem toNat_sub_not (b : Byte) (c : Bool) : (b - if c then 0 else 1).toNat = (b.toNat + c.toNat + 0xFF) % 256 := by
  cases c <;> simp <;> omega

/-- Carry added to a byte. -/
theorem toNat_add_carry (b : Byte) (c : Bool) : (b + if c then 1 else 0).toNat = (b.toNat + c.toNat) % 256 := by
  rw [BitVec.toNat_add]
  cases c <;> rfl

/-- Settles O34: the high byte gets the carry of the low bytes, and 0xFF more for a byte with bit 7 set, as the
sign-extended byte does. -/
theorem relativeAddition : Obligations.RelativeAddition := by
  intro base e
  have hbase := base.isLt
  refine ⟨BitVec.eq_of_toNat_eq ?_, ?_, ?_⟩
  · rw [BitVec.toNat_add, toNat_signExtend16]
    simp only [addrel16, toNat_wordOf, toNat_add8_r, toNat_loByte, Bool.toNat_false]
    split
    · rw [toNat_sub_not, toNat_add8_c, toNat_hiByte, toNat_loByte, Bool.toNat_false]
      omega
    · rw [toNat_add_carry, toNat_add8_c, toNat_hiByte, toNat_loByte, Bool.toNat_false]
      omega
  · simp only [addrel16, add8_h_iff, toNat_loByte, Bool.toNat_false]
    omega
  · simp only [addrel16, add8_c_iff, toNat_loByte, Bool.toNat_false]
    omega

end Sys2Proof.Machine
end

section
/-!
SUPPORT. What the instructions share that access one byte: an operand field `r[z]`, a write of a register, and a store through
a memory descriptor in its four cases (spec 40_engine.md R111, R115, 60_exceptions.md R264 to R269).
-/

namespace Sys2Proof.Machine

open Sys2Proof.Claims

/-! ### The operand field `r[z]` (R82) -/

theorem operandMode_of_r8Reg {r : R8} {n : Reg8} (h : r8Reg r = some n) : operandMode r = .r8 n := by
  cases r
  case indHL => exact nomatch h
  all_goals exact congrArg Mode.r8 (Option.some.inj h)

theorem ne_indHL_of_r8Reg {r : R8} {n : Reg8} (h : r8Reg r = some n) : r ≠ .indHL := by
  rintro rfl
  exact nomatch h

@[simp] theorem operandMode_bytes (r : R8) : (operandMode r).bytes = 0 := by cases r <;> rfl

@[simp] theorem State.read8_operandMode (s : State) (r : R8) :
    s.read8 (s.resolve (operandMode r)).1 = r8Value s r := by
  cases r <;> rfl

/-! ### PC and the other fields -/

/-- What a descriptor reads does not depend on PC. -/
@[simp] theorem State.advance_read8 (s : State) (n : Word) (d : Desc) : (s.advance n).read8 d = s.read8 d := by
  cases d with
  | reg8 m => cases m <;> rfl
  | mem a => rfl
  | imm8 v => rfl
  | none => rfl
  | reg16 m => rfl
  | imm16 v => rfl

theorem State.advance_setReg8 (s : State) (k : Word) (n : Reg8) (v : Byte) :
    (s.advance k).setReg8 n v = { s.setReg8 n v with pc := s.pc + k } := by
  cases n <;> rfl

/-! ### A store through a memory descriptor (R111, R264 to R269) -/

theorem interruptVector_of_mem {v : Byte} {vector : Word} (h : (v, vector) ∈ vectorTable) :
    interruptVector v = some vector := by
  simp only [vectorTable, List.mem_cons, List.not_mem_nil, or_false, Prod.mk.injEq] at h
  obtain ⟨rfl, rfl⟩ | ⟨rfl, rfl⟩ | ⟨rfl, rfl⟩ | ⟨rfl, rfl⟩ | ⟨rfl, rfl⟩ := h <;> rfl

theorem interruptVector_eq_none {v : Byte} (h : ∀ p ∈ vectorTable, p.1 ≠ v) : interruptVector v = none :=
  Option.eq_none_iff_forall_ne_some.mpr fun _ hv => h _ (interruptVector_mem hv) rfl

/-- A store to 0xFF0F that dispatches a value of the table is interrupt entry at its vector (R265, R266, R268). -/
theorem State.write8_if_entered {t : State} {v : Byte} {vector : Word} (hd : dispatchable t v)
    (hv : (v, vector) ∈ vectorTable) : t.write8 (.mem ifAddr) v = .done (entered t vector) := by
  rw [t.write8_if_enter ((t.dispatches_iff v).mpr hd) (interruptVector_of_mem hv), State.push16_eq_pushed]
  rfl

/-- An instruction whose effect at `t` is one store through a memory descriptor, and `post` after it, answers in the four
cases of a store. -/
theorem storeAnswers_of_exec_post {i : Instr} {s t : State} {a : Word} {v : Byte} {post : State → State}
    (h : exec i s = ((t.write8 (.mem a) v).andThen fun u => .done (post u)).finish i.opcode)
    (hcount : t.icount = s.icount) : StoreAnswers i s t a v post := by
  rw [StoreAnswers, h]
  refine ⟨fun ha => ?_, ?_⟩
  · rw [t.write8_mem_ne v ha]
    rfl
  · refine ⟨?_, fun vector => ?_, ?_⟩ <;> rintro (rfl : a = ifAddr) hd
    · rw [t.write8_if_store v (Bool.eq_false_iff.mpr (mt (t.dispatches_iff v).mp hd))]
      rfl
    · intro hv
      rw [State.write8_if_entered hd hv]
      rfl
    · intro hv
      rw [t.write8_if_raise ((t.dispatches_iff v).mpr hd) (interruptVector_eq_none hv), ← hcount]
      exact ⟨_, rfl, rfl, rfl⟩

theorem Effect.andThen_done (e : Effect) : e.andThen .done = e := by cases e <;> rfl

/-- An instruction whose effect at `t` is one store through a memory descriptor and nothing after it. -/
theorem storeAnswers_of_exec {i : Instr} {s t : State} {a : Word} {v : Byte}
    (h : exec i s = (t.write8 (.mem a) v).finish i.opcode) (hcount : t.icount = s.icount) :
    StoreAnswers i s t a v id :=
  storeAnswers_of_exec_post (h.trans (congrArg (·.finish i.opcode) (Effect.andThen_done _).symm)) hcount

end Sys2Proof.Machine
end

section
/-!
SUPPORT. Proofs about the 8-bit loads (spec 41_load8.md R140 to R159): the rows of each operand field as one row, the
register they write, and the byte they store.
-/

namespace Sys2Proof

open Sys2Proof.Machine Sys2Proof.Claims

/-! ### Encodings (R140 to R144) -/

theorem primaryRow_ld8 (r r' : R8) :
    primaryRow (opByte (0x40 + 8 * r8Index r + r8Index r')) = .plain (Instr.ld8 r r') := by
  obtain ⟨hx, hy, hz⟩ := fields_opByte (x := 1) (by decide) (r8Index_lt r) (r8Index_lt r') rfl
  simp [primaryRow, hx, hy, hz]

theorem primaryRow_ldImm8 (r : R8) : primaryRow (opByte (0x06 + 8 * r8Index r)) = .byte (Instr.ldImm8 r) := by
  obtain ⟨hx, hy, hz⟩ := fields_opByte (n := 0x06 + 8 * r8Index r) (x := 0) (z := 6) (by decide) (r8Index_lt r)
    (by decide) (by omega)
  simp [primaryRow, rowX0, hx, hy, hz]

theorem encode_ld8 (r r' : R8) : encode (Instr.ld8 r r') = [opByte (0x40 + 8 * r8Index r + r8Index r')] := by
  have h := encode_primaryRow (opByte (0x40 + 8 * r8Index r + r8Index r')) 0 0
  rwa [primaryRow_ld8] at h

theorem encode_ldImm8 (r : R8) (d8 : Byte) :
    encode (Instr.ldImm8 r d8) = [opByte (0x06 + 8 * r8Index r), d8] := by
  have h := encode_primaryRow (opByte (0x06 + 8 * r8Index r)) d8 0
  rwa [primaryRow_ldImm8] at h

end Sys2Proof

namespace Sys2Proof.Machine

open Sys2Proof.Claims

/-! ### The rows (R84, R85) -/

/-- The rows of quarter x = 1 but HALT's, which stands in the place of `LD (HL),(HL)`. -/
theorem exec_ld8 {r r' : R8} (h : r ≠ .indHL ∨ r' ≠ .indHL) (s : State) :
    exec (Instr.ld8 r r') s = runRow 1 (Instr.ld8 r r').opcode (operandMode r') (operandMode r) ld8Body s := by
  cases r <;> cases r'
  case indHL.indHL => exact absurd rfl (h.elim id id)
  all_goals rfl

theorem exec_ldImm8 (r : R8) (d8 : Byte) (s : State) :
    exec (Instr.ldImm8 r d8) s = runRow 1 (Instr.ldImm8 r d8).opcode (.d8 d8) (operandMode r) ld8Body s := by
  cases r <;> rfl

/-! ### Loads of a register (R140 to R142, R145 to R158) -/

/-- A load of a register: the value that the source reads before the instruction, and PC past it. -/
theorem runRow_ld8_reg (size : Word) (op : Byte) (src : Mode) (n : Reg8) (s : State) :
    runRow size op src (.r8 n) ld8Body s =
      .next { s.setReg8 n (s.read8 (s.resolve src).1) with pc := s.pc + (size + src.bytes) } := by
  have hbytes : size + src.bytes + (Mode.r8 n).bytes = size + src.bytes := BitVec.add_zero _
  rw [runRow_eq, hbytes, ← State.advance_setReg8, ← s.advance_read8 (size + src.bytes)]
  rfl

/-- `LD r,r'` and `LD r,(HL)`. -/
theorem exec_ld8_reg {r : R8} {n : Reg8} (h : r8Reg r = some n) (r' : R8) (s : State) :
    exec (Instr.ld8 r r') s = .next { s.setReg8 n (r8Value s r') with pc := s.pc + 1 } := by
  rw [exec_ld8 (.inl (ne_indHL_of_r8Reg h)), operandMode_of_r8Reg h, runRow_ld8_reg, State.read8_operandMode,
    operandMode_bytes]
  rfl

/-- Settles O35: the row's destination is the register, and its source reads the operand before the instruction. -/
theorem loadRegisterFromRegister : Obligations.LoadRegisterFromRegister :=
  fun r r' _ _ s hr _ => ⟨encode_ld8 r r', exec_ld8_reg hr r' s⟩

/-- Settles O36: an immediate is read as it stands, and `(HL)` is read before the register is written. -/
theorem loadRegisterFromImmediateOrMemory : Obligations.LoadRegisterFromImmediateOrMemory := by
  intro r n s hr
  refine ⟨fun d8 => ⟨encode_ldImm8 r d8, ?_⟩, ?_, exec_ld8_reg hr .indHL s⟩
  · rw [exec_ldImm8, operandMode_of_r8Reg hr, runRow_ld8_reg]
    rfl
  · rw [encode_ld8, Nat.add_right_comm]
    rfl

/-- Settles O37: five rows are loads of register A from a memory descriptor, and two step HL after it. -/
theorem loadAccumulatorFromMemory : Obligations.LoadAccumulatorFromMemory := fun s =>
  ⟨⟨rfl, runRow_ld8_reg 1 0x0A .indBC .a s⟩, ⟨rfl, runRow_ld8_reg 1 0x1A .indDE .a s⟩,
    fun a16 => ⟨rfl, runRow_ld8_reg 1 0xFA (.a16 a16) .a s⟩, fun a8 => ⟨rfl, runRow_ld8_reg 1 0xF0 (.a8 a8) .a s⟩,
    ⟨rfl, runRow_ld8_reg 1 0xF2 .indC .a s⟩, ⟨rfl, rfl⟩, ⟨rfl, rfl⟩⟩

/-! ### Stores of a byte (R143, R144, R147 to R157) -/

/-- A load whose destination is a memory descriptor answers as a store there, at the state past the instruction. -/
theorem storeAnswers_ld8 {i : Instr} {s : State} {a : Word} (size : Word) (src dst : Mode)
    (h : exec i s = runRow size i.opcode src dst ld8Body s) (hdst : (s.resolve dst).1 = .mem a) :
    StoreAnswers i s (s.advance (size + src.bytes + dst.bytes)) a (s.read8 (s.resolve src).1) id := by
  refine storeAnswers_of_exec ?_ rfl
  rw [h, runRow_eq, hdst, ← s.advance_read8 (size + src.bytes + dst.bytes)]
  rfl

/-- `LD (HL),r`. -/
theorem storeAnswers_ld8_indHL {r : R8} {n : Reg8} (h : r8Reg r = some n) (s : State) :
    StoreAnswers (Instr.ld8 .indHL r) s { s with pc := s.pc + 1 } s.hl (r8Value s r) id := by
  have hstore := storeAnswers_ld8 1 (operandMode r) .indHL (exec_ld8 (r := .indHL) (.inr (ne_indHL_of_r8Reg h)) s) rfl
  rwa [operandMode_bytes, State.read8_operandMode] at hstore

/-- Settles O38: each row is a load to a memory descriptor. -/
theorem storeByteInstructions : Obligations.StoreByteInstructions := fun _ =>
  ⟨fun r _ hr => ⟨encode_ld8 .indHL r, storeAnswers_ld8_indHL hr _⟩,
    fun d8 => ⟨rfl, storeAnswers_ld8 1 (.d8 d8) .indHL rfl rfl⟩,
    ⟨rfl, storeAnswers_ld8 1 (.r8 .a) .indBC rfl rfl⟩,
    ⟨rfl, storeAnswers_ld8 1 (.r8 .a) .indDE rfl rfl⟩,
    fun a16 => ⟨rfl, storeAnswers_ld8 1 (.r8 .a) (.a16 a16) rfl rfl⟩,
    fun a8 => ⟨rfl, storeAnswers_ld8 1 (.r8 .a) (.a8 a8) rfl rfl⟩,
    ⟨rfl, storeAnswers_ld8 1 (.r8 .a) .indC rfl rfl⟩⟩

/-- A store through a memory descriptor leaves HL, also when it enters an interrupt: a step of HL after it is from HL as it
was before (R269). -/
theorem State.write8_mem_stepHl (s : State) (a : Word) (v : Byte) (f : Word → Word) :
    ((s.write8 (.mem a) v).andThen fun t => .done (t.setReg16 .hl (f t.hl))) =
      (s.write8 (.mem a) v).andThen fun t => .done { t with hl := f s.hl } := by
  obtain h | ⟨_, _, _, _, h⟩ | ⟨_, _, _, h⟩ := s.write8_mem_cases a v <;> rw [h] <;> rfl

/-- Settles O39: the store at the old HL, then HL stepped from what it was. -/
theorem storeByteAndStepPointer : Obligations.StoreByteAndStepPointer := fun s =>
  ⟨⟨rfl, storeAnswers_of_exec_post
      (congrArg (·.finish 0x22) ((s.advance 1).write8_mem_stepHl s.hl (hiByte s.af) (· + 1))) rfl⟩,
    ⟨rfl, storeAnswers_of_exec_post
      (congrArg (·.finish 0x32) ((s.advance 1).write8_mem_stepHl s.hl (hiByte s.af) (· - 1))) rfl⟩⟩

end Sys2Proof.Machine
end

section
/-!
SUPPORT. Proofs about the 16-bit loads and the stack instructions (spec 42_load16_stack.md R160 to R166, 44_alu16.md R193): the
rows of each pair field as one row, what a row does to its 16-bit register, and the relative addition to SP.
-/

namespace Sys2Proof.Machine

open Sys2Proof.Claims

/-! ### PC and the other fields -/

/-- What a descriptor reads as a word does not depend on PC. -/
@[simp] theorem State.advance_read16 (s : State) (n : Word) (d : Desc) : (s.advance n).read16 d = s.read16 d := by
  cases d with
  | reg16 m => cases m <;> rfl
  | mem a => rfl
  | imm16 v => rfl
  | none => rfl
  | reg8 m => rfl
  | imm8 v => rfl

theorem State.advance_setReg16 (s : State) (k : Word) (n : Reg16) (v : Word) :
    (s.advance k).setReg16 n v = { s.setReg16 n v with pc := s.pc + k } := by
  cases n <;> rfl

/-! ### Loads of words (R160 to R162) -/

/-- A load of a 16-bit register: the word that the source reads before the instruction, and PC past it. -/
theorem runRow_ld16_reg (size : Word) (op : Byte) (src : Mode) (n : Reg16) (s : State) :
    runRow size op src (.r16 n) ld16Body s =
      .next { s.setReg16 n (s.read16 (s.resolve src).1) with pc := s.pc + (size + src.bytes) } := by
  have hbytes : size + src.bytes + (Mode.r16 n).bytes = size + src.bytes := BitVec.add_zero _
  rw [runRow_eq, hbytes, ← State.advance_setReg16, ← s.advance_read16 (size + src.bytes)]
  rfl

theorem exec_ldImm16 (p : Rp) (d16 : Word) (s : State) :
    exec (Instr.ldImm16 p d16) s =
      runRow 1 (Instr.ldImm16 p d16).opcode (.d16 d16) (.r16 (rpIndex p).2) ld16Body s := by
  cases p <;> rfl

theorem encode_ldImm16 (p : Rp) (d16 : Word) :
    encode (Instr.ldImm16 p d16) = [opByte (0x01 + 16 * (rpIndex p).1), loByte d16, hiByte d16] := by
  cases p <;> rfl

/-- `LD (a16),SP`: the two stores of a word at a descriptor, also at 0xFF0F (R113, D7). -/
theorem exec_ld_indA16_SP_eq (a16 : Word) (s : State) :
    exec (.ld_indA16_SP a16) s = .next ((s.advance 3).storeWord a16 s.sp) :=
  runRow_eq 1 0x08 (.r16 .sp) (.a16 a16) ld16Body s

/-- Settles O40: the rows with a register destination are loads of that register, and `LD (a16),SP` stores a word. -/
theorem loadWords : Obligations.LoadWords := fun s =>
  ⟨fun p d16 => ⟨encode_ldImm16 p d16, (exec_ldImm16 p d16 s).trans (runRow_ld16_reg 1 _ (.d16 d16) _ s)⟩,
    fun a16 => ⟨rfl, exec_ld_indA16_SP_eq a16 s⟩, ⟨rfl, runRow_ld16_reg 1 0xF9 (.r16 .hl) .sp s⟩⟩

/-! ### The relative addition to SP (R128, R163, R193, D14) -/

/-- The relative addition as one sum, its flags as comparisons of remainders. -/
theorem addrel16_eq (base : Word) (e : Byte) :
    addrel16 base e = ⟨base + e.signExtend 16, decide (base.toNat % 16 + e.toNat % 16 > 0xF),
      decide (base.toNat % 256 + e.toNat > 0xFF)⟩ := by
  obtain ⟨hr, hh, hc⟩ := relativeAddition base e
  rw [← hr, ← Bool.eq_iff_iff.mpr (hh.trans decide_eq_true_iff.symm),
    ← Bool.eq_iff_iff.mpr (hc.trans decide_eq_true_iff.symm)]

/-- `LD HL,SP+e8`: SP itself stays. -/
theorem exec_ld_HL_SP_e8_eq (e8 : Byte) (s : State) :
    exec (.ld_HL_SP_e8 e8) s =
      let sum := addrel16 s.sp e8
      .next { s with hl := sum.r, af := wordOf (hiByte s.af) (flagByte false false sum.h sum.c), pc := s.pc + 2 } :=
  runRow_eq 1 0xF8 (.d8 e8) (.r16 .hl) ldHlSpBody s

/-- `ADD SP,e8`: the same sum into SP. -/
theorem exec_add_SP_e8_eq (e8 : Byte) (s : State) :
    exec (.add_SP_e8 e8) s =
      let sum := addrel16 s.sp e8
      .next { s with sp := sum.r, af := wordOf (hiByte s.af) (flagByte false false sum.h sum.c), pc := s.pc + 2 } :=
  runRow_eq 1 0xE8 (.d8 e8) (.r16 .sp) addSpBody s

/-- Settles O41: both rows write the relative addition to SP and its flags, which are those of the sum. -/
theorem stackPointerOffsets : Obligations.StackPointerOffsets := fun s e8 =>
  ⟨⟨rfl, by rw [exec_ld_HL_SP_e8_eq, addrel16_eq]⟩, rfl, by rw [exec_add_SP_e8_eq, addrel16_eq]⟩

/-! ### The stack instructions (R164 to R166) -/

theorem encode_push (p : Rp2) : encode (Instr.push p) = [opByte (0xC5 + 16 * (rp2Index p).1)] := by cases p <;> rfl

theorem encode_pop (p : Rp2) : encode (Instr.pop p) = [opByte (0xC1 + 16 * (rp2Index p).1)] := by cases p <;> rfl

theorem exec_push (p : Rp2) (s : State) :
    exec (Instr.push p) s = runRow 1 (Instr.push p).opcode (.r16 (rp2Index p).2) .none pushBody s := by
  cases p <;> rfl

theorem exec_pop (p : Rp2) (s : State) :
    exec (Instr.pop p) s = runRow 1 (Instr.pop p).opcode .none (.r16 (rp2Index p).2) popBody s := by
  cases p <;> rfl

theorem rp2Index_ne_sp (p : Rp2) : (rp2Index p).2 ≠ .sp := by cases p <;> decide

/-- A pushed register is read before SP moves. -/
theorem runRow_push (op : Byte) (n : Reg16) (s : State) :
    runRow 1 op (.r16 n) .none pushBody s = .next { pushed s (s.reg16 n) with pc := s.pc + 1 } := by
  calc runRow 1 op (.r16 n) .none pushBody s
      = .next ((s.advance 1).push16 ((s.advance 1).read16 (.reg16 n))) := runRow_eq 1 op (.r16 n) .none pushBody s
    _ = .next (pushed (s.advance 1) (s.reg16 n)) := by
      rw [State.advance_read16, State.push16_eq_pushed]
      rfl

/-- A popped register other than SP is written with the word on top of the stack; AF is masked by that write (D5). -/
theorem runRow_pop (op : Byte) {n : Reg16} (hn : n ≠ .sp) (s : State) :
    runRow 1 op .none (.r16 n) popBody s =
      .next { s.setReg16 n (stackTop s) with sp := s.sp + 2, pc := s.pc + 1 } := by
  calc runRow 1 op .none (.r16 n) popBody s
      = .next ((s.advance 1).pop16.2.setReg16 n (s.advance 1).pop16.1) := runRow_eq 1 op .none (.r16 n) popBody s
    _ = .next { s.setReg16 n (stackTop s) with sp := s.sp + 2, pc := s.pc + 1 } := by
      rw [State.pop16_eq]
      cases n
      case sp => exact absurd rfl hn
      all_goals rfl

/-- Settles O42: the rows of `rp2` are the push and the pop of their pair, none of which is SP. -/
theorem pushAndPop : Obligations.PushAndPop := fun s p =>
  ⟨encode_push p, (exec_push p s).trans (runRow_push _ _ s), encode_pop p,
    (exec_pop p s).trans (runRow_pop _ (rp2Index_ne_sp p) s)⟩

end Sys2Proof.Machine
end

section
/-!
SUPPORT. Proofs about 8-bit arithmetic and logic (spec 43_alu8.md R170 to R186): the flags of each primitive in the statements'
words, the rows of an accumulator operation as one row, and the write of a result after its flags.
-/

namespace Sys2Proof

open Sys2Proof.Machine Sys2Proof.Claims

/-! ### Encodings (R85, R170, R179, R181) -/

/-- The index of an accumulator operation field `alu[i]` (R82). -/
def aluIndex (k : AluOp) : Nat :=
  match k with
  | .add => 0
  | .adc => 1
  | .sub => 2
  | .sbc => 3
  | .and => 4
  | .xor => 5
  | .or => 6
  | .cp => 7

@[simp] theorem AluOp.ofCode_aluIndex (k : AluOp) : AluOp.ofCode (aluIndex k) = k := by cases k <;> rfl

theorem aluIndex_lt (k : AluOp) : aluIndex k < 8 := by cases k <;> decide

theorem primaryRow_alu (k : AluOp) (r : R8) :
    primaryRow (opByte (0x80 + 8 * aluIndex k + r8Index r)) = .plain (Instr.alu k r) := by
  obtain ⟨hx, hy, hz⟩ := fields_opByte (x := 2) (by decide) (aluIndex_lt k) (r8Index_lt r) rfl
  simp [primaryRow, hx, hy, hz]

theorem encode_alu (k : AluOp) (r : R8) :
    encode (Instr.alu k r) = [opByte (0x80 + 8 * aluIndex k + r8Index r)] := by
  have h := encode_primaryRow (opByte (0x80 + 8 * aluIndex k + r8Index r)) 0 0
  rwa [primaryRow_alu] at h

theorem encode_inc8 (r : R8) : encode (Instr.inc8 r) = [opByte (0x04 + 8 * r8Index r)] := by cases r <;> rfl

theorem encode_dec8 (r : R8) : encode (Instr.dec8 r) = [opByte (0x05 + 8 * r8Index r)] := by cases r <;> rfl

end Sys2Proof

namespace Sys2Proof.Machine

open Sys2Proof.Claims

/-! ### The primitives in the statements' words (R125, R126, R179, R181, R183) -/

/-- The sum and its flags: zero as that the sum is a multiple of 256. -/
theorem add8_eq (a b : Byte) (cin : Bool) :
    add8 a b cin = ⟨BitVec.ofNat 8 (a.toNat + b.toNat + cin.toNat),
      decide ((a.toNat + b.toNat + cin.toNat) % 256 = 0), false,
      decide (a.toNat % 16 + b.toNat % 16 + cin.toNat > 0xF), decide (a.toNat + b.toNat + cin.toNat > 0xFF)⟩ := by
  obtain ⟨_, hz, _⟩ := byteArithmetic a b cin
  rw [← Bool.eq_iff_iff.mpr (hz.trans decide_eq_true_iff.symm)]
  rfl

/-- The difference and its flags: zero as that the difference is a multiple of 256. -/
theorem sub8_eq (a b : Byte) (bin : Bool) :
    sub8 a b bin = ⟨BitVec.ofInt 8 ((a.toNat : Int) - b.toNat - bin.toNat),
      decide (((a.toNat : Int) - b.toNat - bin.toNat) % 256 = 0), true,
      decide (a.toNat % 16 < b.toNat % 16 + bin.toNat), decide (a.toNat < b.toNat + bin.toNat)⟩ := by
  obtain ⟨_, _, _, _, _, _, _, hz, _⟩ := byteArithmetic a b bin
  rw [← Bool.eq_iff_iff.mpr (hz.trans decide_eq_true_iff.symm)]
  rfl

theorem byte_sub_eq_ofInt (a b : Byte) : a - b = BitVec.ofInt 8 ((a.toNat : Int) - b.toNat) := by
  have ha := a.isLt
  have hb := b.isLt
  apply BitVec.eq_of_toNat_eq
  rw [BitVec.toNat_sub, BitVec.toNat_ofInt]
  omega

/-- One more: zero comes after 0xFF, and a carry out of bit 3 after a low nibble 0xF. -/
theorem add8_one (v : Byte) :
    (add8 v 1 false).r = v + 1 ∧ (add8 v 1 false).z = decide (v = 0xFF) ∧
    (add8 v 1 false).h = decide (v.toNat % 16 = 0xF) := by
  simp only [add8_eq, Bool.toNat_false, decide_eq_decide]
  exact ⟨by bv_omega, by bv_omega, by bv_omega⟩

/-- One less: zero comes after 0x01, and a borrow into bit 3 after a low nibble 0. -/
theorem sub8_one (v : Byte) :
    (sub8 v 1 false).r = v - 1 ∧ (sub8 v 1 false).z = decide (v = 0x01) ∧
    (sub8 v 1 false).h = decide (v.toNat % 16 = 0x0) := by
  simp only [sub8_eq, Bool.toNat_false, decide_eq_decide]
  exact ⟨by rw [byte_sub_eq_ofInt, Int.natCast_zero, Int.sub_zero], by bv_omega, by bv_omega⟩

theorem toNat_daaCorrection (low high : Bool) :
    (daaCorrection low high).toNat = (if low then 0x06 else 0) + (if high then 0x60 else 0) := by
  cases low <;> cases high <;> rfl

/-- The decimal adjust with one form of each condition: after a subtraction (N) only the flags count. -/
theorem daaAdjust_eq (a : Byte) (n h c : Bool) :
    daaAdjust a n h c =
      let low := h || (!n && decide (a.toNat % 16 > 9))
      let high := c || (!n && decide (a.toNat > 0x99))
      let corr : Nat := (if low then 0x06 else 0) + (if high then 0x60 else 0)
      (if n then BitVec.ofInt 8 ((a.toNat : Int) - corr) else BitVec.ofNat 8 (a.toNat + corr), high) := by
  have hnibble : (a &&& 0x0F).toNat = a.toNat % 16 := Nat.and_two_pow_sub_one_eq_mod a.toNat 4
  cases n with
  | true => simp [daaAdjust, byte_sub_eq_ofInt, toNat_daaCorrection]
  | false => simp only [daaAdjust, BitVec.add_def, toNat_daaCorrection, hnibble]; rfl

/-! ### A result written after its flags (D19, R22) -/

/-- A half other than F is written apart from the flags. -/
theorem State.setFlags_setReg8 (s : State) {n : Reg8} (hn : n ≠ .f) (v : Byte) (z m h c : Bool) :
    (s.setFlags z m h c).setReg8 n v = (s.setReg8 n v).setFlags z m h c := by
  cases n
  case f => exact absurd rfl hn
  case a => simp [State.setReg8, State.setFlags]
  all_goals rfl

/-- A result written to a half other than F after the flags, past the instruction. -/
theorem State.write8_reg8_flags (s : State) (size : Word) {n : Reg8} (hn : n ≠ .f) (z m h c : Bool) (v : Byte) :
    ((s.advance size).setFlags z m h c).write8 (.reg8 n) v =
      .done { (s.setReg8 n v).setFlags z m h c with pc := s.pc + size } := by
  rw [State.write8, State.setFlags_setReg8 _ hn, State.advance_setReg8]
  rfl

theorem State.write8_a_flags (s : State) (size : Word) (z n h c : Bool) (v : Byte) :
    ((s.advance size).setFlags z n h c).write8 (.reg8 .a) v = .done (accDone s size v z n h c) := by
  rw [State.write8_reg8_flags s size (by decide)]
  simp [State.setReg8, State.setFlags, accDone]

/-! ### The rows of an accumulator operation (R84, R85, R170) -/

/-- The body of an accumulator operation. -/
def aluBody (k : AluOp) : Body :=
  match k with
  | .add => addBody
  | .adc => adcBody
  | .sub => subBody
  | .sbc => sbcBody
  | .and => andBody
  | .xor => xorBody
  | .or => orBody
  | .cp => cpBody

/-- What an accumulator operation leaves in A and in the flags, from A, the operand and the carry: `CP` keeps A. -/
def aluResult (k : AluOp) (a v : Byte) (c : Bool) : Alu8 :=
  match k with
  | .add => add8 a v false
  | .adc => add8 a v c
  | .sub => sub8 a v false
  | .sbc => sub8 a v c
  | .and => and8 a v
  | .xor => xor8 a v
  | .or => or8 a v
  | .cp => { sub8 a v false with r := a }

/-- The state after an accumulator operation of `size` bytes. -/
def State.afterAlu (s : State) (size : Word) (out : Alu8) : State := accDone s size out.r out.z out.n out.h out.c

theorem exec_alu (k : AluOp) (r : R8) (s : State) :
    exec (Instr.alu k r) s = runRow 1 (Instr.alu k r).opcode (operandMode r) (.r8 .a) (aluBody k) s := by
  cases k <;> cases r <;> rfl

theorem exec_aluImm (k : AluOp) (d8 : Byte) (s : State) :
    exec (Instr.aluImm k d8) s = runRow 1 (Instr.aluImm k d8).opcode (.d8 d8) (.r8 .a) (aluBody k) s := by
  cases k <;> rfl

theorem writeAlu_a (s : State) (size : Word) (out : Alu8) :
    writeAlu (.reg8 .a) out (s.advance size) = .done (s.afterAlu size out) := s.write8_a_flags size _ _ _ _ _

theorem aluBody_a (k : AluOp) (src : Desc) (size : Word) (s : State) :
    aluBody k src (.reg8 .a) (s.advance size) =
      .done (s.afterAlu size (aluResult k (hiByte s.af) (s.read8 src) s.fC)) := by
  rw [← s.advance_read8 size src]
  cases k
  case cp => rfl
  all_goals exact writeAlu_a s size _

/-- An accumulator operation: A with the operand that the source reads before the instruction, and PC past it. -/
theorem runRow_alu (size : Word) (op : Byte) (src : Mode) (k : AluOp) (s : State) :
    runRow size op src (.r8 .a) (aluBody k) s =
      .next (s.afterAlu (size + src.bytes) (aluResult k (hiByte s.af) (s.read8 (s.resolve src).1) s.fC)) := by
  have hbytes : size + src.bytes + (Mode.r8 .a).bytes = size + src.bytes := BitVec.add_zero _
  have hdst : (s.resolve (.r8 .a)).1 = .reg8 .a := rfl
  rw [runRow_eq, hbytes, hdst, aluBody_a]
  rfl

theorem exec_alu_next (k : AluOp) (r : R8) (s : State) :
    exec (Instr.alu k r) s = .next (s.afterAlu 1 (aluResult k (hiByte s.af) (r8Value s r) s.fC)) := by
  rw [exec_alu, runRow_alu, State.read8_operandMode, operandMode_bytes]
  rfl

theorem exec_aluImm_next (k : AluOp) (d8 : Byte) (s : State) :
    exec (Instr.aluImm k d8) s = .next (s.afterAlu 2 (aluResult k (hiByte s.af) d8 s.fC)) := by
  rw [exec_aluImm, runRow_alu]
  rfl

/-- Settles O43: both additions are `add8`, whose carry-in is zero or C. -/
theorem addToAccumulator : Obligations.AddToAccumulator := by
  intro s a sum
  have hsum (size : Word) (v : Byte) (cin : Bool) : Host.Outcome.next (s.afterAlu size (add8 a v cin)) =
      (.next (sum size v cin) : Result) := by rw [add8_eq]; rfl
  exact ⟨fun r => ⟨encode_alu .add r, (exec_alu_next .add r s).trans (hsum 1 _ _),
      encode_alu .adc r, (exec_alu_next .adc r s).trans (hsum 1 _ _)⟩,
    fun d8 => ⟨rfl, (exec_aluImm_next .add d8 s).trans (hsum 2 _ _),
      rfl, (exec_aluImm_next .adc d8 s).trans (hsum 2 _ _)⟩⟩

/-- Settles O44: the three are `sub8`, whose borrow-in is zero or C, and `CP` puts A back in the place of the difference. -/
theorem subtractFromAccumulator : Obligations.SubtractFromAccumulator := by
  intro s a diff done
  have hsub (size : Word) (v : Byte) (bin : Bool) : Host.Outcome.next (s.afterAlu size (sub8 a v bin)) =
      (.next (done size (diff v bin) v bin) : Result) := by rw [sub8_eq]; rfl
  have hcp (size : Word) (v : Byte) : Host.Outcome.next (s.afterAlu size { sub8 a v false with r := a }) =
      (.next (done size a v false) : Result) := by rw [sub8_eq]; rfl
  exact ⟨fun r => ⟨encode_alu .sub r, (exec_alu_next .sub r s).trans (hsub 1 _ _),
      encode_alu .sbc r, (exec_alu_next .sbc r s).trans (hsub 1 _ _),
      encode_alu .cp r, (exec_alu_next .cp r s).trans (hcp 1 _)⟩,
    fun d8 => ⟨rfl, (exec_aluImm_next .sub d8 s).trans (hsub 2 _ _),
      rfl, (exec_aluImm_next .sbc d8 s).trans (hsub 2 _ _),
      rfl, (exec_aluImm_next .cp d8 s).trans (hcp 2 _)⟩⟩

/-- Settles O45: the flags of the three are those of their primitive as they stand. -/
theorem logicOnAccumulator : Obligations.LogicOnAccumulator := fun s =>
  ⟨fun r => ⟨encode_alu .and r, exec_alu_next .and r s, encode_alu .xor r, exec_alu_next .xor r s,
      encode_alu .or r, exec_alu_next .or r s⟩,
    fun d8 => ⟨rfl, exec_aluImm_next .and d8 s, rfl, exec_aluImm_next .xor d8 s, rfl, exec_aluImm_next .or d8 s⟩⟩

/-! ### `INC` and `DEC` of a register and of the byte at HL (R179 to R182, D15) -/

theorem exec_inc8 (r : R8) (s : State) :
    exec (Instr.inc8 r) s = runRow 1 (Instr.inc8 r).opcode .none (operandMode r) incBody s := by
  cases r <;> rfl

theorem exec_dec8 (r : R8) (s : State) :
    exec (Instr.dec8 r) s = runRow 1 (Instr.dec8 r).opcode .none (operandMode r) decBody s := by
  cases r <;> rfl

/-- A count of one byte by `f`, with Z and H from the old byte by `z` and `h`, N as given and C kept (D15). -/
def countBody (f : Byte → Byte) (z : Byte → Bool) (n : Bool) (h : Byte → Bool) : Body := fun _ dst s =>
  (s.setFlags (z (s.read8 dst)) n (h (s.read8 dst)) s.fC).write8 dst (f (s.read8 dst))

theorem incBody_eq :
    incBody = countBody (· + 1) (fun v => decide (v = 0xFF)) false (fun v => decide (v.toNat % 16 = 0xF)) := by
  funext _ dst s
  obtain ⟨hr, hz, hh⟩ := add8_one (s.read8 dst)
  rw [countBody, ← hr, ← hz, ← hh]
  rfl

theorem decBody_eq :
    decBody = countBody (· - 1) (fun v => decide (v = 0x01)) true (fun v => decide (v.toNat % 16 = 0x0)) := by
  funext _ dst s
  obtain ⟨hr, hz, hh⟩ := sub8_one (s.read8 dst)
  rw [countBody, ← hr, ← hz, ← hh]
  rfl

theorem State.read8_of_r8Reg (s : State) {r : R8} {n : Reg8} (hr : r8Reg r = some n) :
    s.read8 (.reg8 n) = r8Value s r := by
  rw [← s.read8_operandMode, operandMode_of_r8Reg hr]
  rfl

/-- An operand field never names F (R82). -/
theorem ne_f_of_r8Reg {r : R8} {n : Reg8} (hr : r8Reg r = some n) : n ≠ .f := by
  rintro rfl
  cases r <;> exact nomatch hr

/-- A count of a register: the flags and the half written, PC past the instruction. -/
theorem runRow_countBody_reg {r : R8} {n : Reg8} (hr : r8Reg r = some n) (op : Byte) (f : Byte → Byte)
    (z : Byte → Bool) (m : Bool) (h : Byte → Bool) (s : State) :
    runRow 1 op .none (operandMode r) (countBody f z m h) s =
      .next { (s.setReg8 n (f (r8Value s r))).setFlags (z (r8Value s r)) m (h (r8Value s r)) s.fC with
        pc := s.pc + 1 } := by
  have hread : (s.advance 1).read8 (.reg8 n) = r8Value s r := by rw [State.advance_read8, s.read8_of_r8Reg hr]
  have hrow : runRow 1 op .none (.r8 n) (countBody f z m h) s =
      (countBody f z m h .none (.reg8 n) (s.advance 1)).finish op := runRow_eq 1 op .none (.r8 n) _ s
  rw [operandMode_of_r8Reg hr, hrow, countBody, hread, State.write8_reg8_flags s 1 (ne_f_of_r8Reg hr)]
  rfl

/-- A count of the byte at HL answers as a store there, with the flags already written (D19). -/
theorem storeAnswers_countBody {i : Instr} {s : State} {body : Body} {f : Byte → Byte} {z : Byte → Bool} {n : Bool}
    {h : Byte → Bool} (hbody : body = countBody f z n h) (hi : exec i s = runRow 1 i.opcode .none .indHL body s) :
    StoreAnswers i s (({ s with pc := s.pc + 1 } : State).setFlags (z (s.readByte s.hl)) n (h (s.readByte s.hl)) s.fC)
      s.hl (f (s.readByte s.hl)) id := by
  subst hbody
  exact storeAnswers_of_exec (hi.trans (runRow_eq 1 _ .none .indHL _ s)) rfl

/-- Settles O46: both rows are counts of the register, whose half is not F. -/
theorem stepRegister : Obligations.StepRegister := by
  intro s r n hr v
  refine ⟨encode_inc8 r, ?_, encode_dec8 r, ?_⟩
  · rw [exec_inc8, incBody_eq, runRow_countBody_reg hr]
  · rw [exec_dec8, decBody_eq, runRow_countBody_reg hr]

/-- Settles O47: both rows are counts of the byte at HL. -/
theorem stepMemoryByte : Obligations.StepMemoryByte := by
  intro s v at1
  have hinc := storeAnswers_countBody (i := .inc_indHL) (s := s) incBody_eq rfl
  have hdec := storeAnswers_countBody (i := .dec_indHL) (s := s) decBody_eq rfl
  exact ⟨rfl, hinc, rfl, hdec⟩

/-! ### `DAA`, `CPL`, `SCF` and `CCF` (R183 to R186) -/

/-- `DAA` writes the adjusted value to A after the flags. -/
theorem exec_daa_next (s : State) :
    exec .daa s =
      let out := daaAdjust (hiByte s.af) s.fN s.fH s.fC
      .next (accDone s 1 out.1 (out.1 == 0) s.fN false out.2) :=
  congrArg (·.finish 0x27) (s.write8_a_flags 1 _ s.fN false _ _)

/-- Settles O48: the corrections as numbers, and their conditions in one form for both signs. -/
theorem decimalAdjust : Obligations.DecimalAdjust := fun s => ⟨rfl, by rw [exec_daa_next, daaAdjust_eq]; rfl⟩

/-- Settles O49: `CPL` writes A after the flags, the other two leave it as it stands. -/
theorem complementAndCarryFlag : Obligations.ComplementAndCarryFlag := fun s =>
  ⟨⟨rfl, congrArg (·.finish 0x2F) (s.write8_a_flags 1 s.fZ true true s.fC (hiByte s.af ^^^ 0xFF))⟩, ⟨rfl, rfl⟩,
    ⟨rfl, rfl⟩⟩

end Sys2Proof.Machine
end

section
/-!
SUPPORT. Proofs about 16-bit arithmetic (spec 44_alu16.md R190 to R192): the rows of each pair field as one row, the sum into HL
with its flags, and the counts of a pair.
-/

namespace Sys2Proof.Machine

open Sys2Proof.Claims

/-! ### Encodings and rows (R84, R85) -/

theorem encode_addHl (p : Rp) : encode (Instr.addHl p) = [opByte (0x09 + 16 * (rpIndex p).1)] := by cases p <;> rfl

theorem encode_inc16 (p : Rp) : encode (Instr.inc16 p) = [opByte (0x03 + 16 * (rpIndex p).1)] := by cases p <;> rfl

theorem encode_dec16 (p : Rp) : encode (Instr.dec16 p) = [opByte (0x0B + 16 * (rpIndex p).1)] := by cases p <;> rfl

theorem exec_addHl (p : Rp) (s : State) :
    exec (Instr.addHl p) s = runRow 1 (Instr.addHl p).opcode (.r16 (rpIndex p).2) (.r16 .hl) addHlBody s := by
  cases p <;> rfl

theorem exec_inc16 (p : Rp) (s : State) :
    exec (Instr.inc16 p) s = runRow 1 (Instr.inc16 p).opcode .none (.r16 (rpIndex p).2) inc16Body s := by
  cases p <;> rfl

theorem exec_dec16 (p : Rp) (s : State) :
    exec (Instr.dec16 p) s = runRow 1 (Instr.dec16 p).opcode .none (.r16 (rpIndex p).2) dec16Body s := by
  cases p <;> rfl

/-! ### The sum into HL (R127, R190) -/

/-- The word addition as one sum, its flags as comparisons of remainders. -/
theorem add16_eq (x y : Word) :
    add16 x y = ⟨x + y, decide (x.toNat % 4096 + y.toNat % 4096 > 0xFFF), decide (x.toNat + y.toNat > 0xFFFF)⟩ := by
  obtain ⟨hr, hh, hc⟩ := wordAddition x y
  rw [← hr, ← Bool.eq_iff_iff.mpr (hh.trans decide_eq_true_iff.symm),
    ← Bool.eq_iff_iff.mpr (hc.trans decide_eq_true_iff.symm)]

/-- `ADD HL,rr`: both operands are read before HL is written, and Z is the old one. -/
theorem runRow_addHl (op : Byte) (n : Reg16) (s : State) :
    runRow 1 op (.r16 n) (.r16 .hl) addHlBody s =
      let sum := add16 s.hl (s.reg16 n)
      .next { s with hl := sum.r, af := wordOf (hiByte s.af) (flagByte s.fZ false sum.h sum.c), pc := s.pc + 1 } := by
  have hread : (s.advance 1).read16 (.reg16 n) = s.reg16 n := s.advance_read16 1 (.reg16 n)
  rw [← hread]
  exact runRow_eq 1 op (.r16 n) (.r16 .hl) addHlBody s

/-! ### The counts of a pair (R191, R192) -/

/-- A count of one word by `f`, with no flag. -/
def countWordBody (f : Word → Word) : Body := fun _ dst s => .done (s.write16 dst (f (s.read16 dst)))

theorem inc16Body_eq : inc16Body = countWordBody (· + 1) := rfl

theorem dec16Body_eq : dec16Body = countWordBody (· - 1) := rfl

/-- A count of a 16-bit register: the register written, and PC past the instruction. -/
theorem runRow_countWordBody_reg (op : Byte) (f : Word → Word) (n : Reg16) (s : State) :
    runRow 1 op .none (.r16 n) (countWordBody f) s =
      .next { s.setReg16 n (f (s.reg16 n)) with pc := s.pc + 1 } := by
  have hread : (s.advance 1).read16 (.reg16 n) = s.reg16 n := s.advance_read16 1 (.reg16 n)
  rw [← State.advance_setReg16, ← hread]
  exact runRow_eq 1 op .none (.r16 n) (countWordBody f) s

/-- Settles O50: the sum is that of `add16`, and both counts write the pair and nothing else. -/
theorem wordArithmetic : Obligations.WordArithmetic := by
  intro s p v
  refine ⟨encode_addHl p, ?_, encode_inc16 p, ?_, encode_dec16 p, ?_⟩
  · rw [exec_addHl, runRow_addHl, add16_eq]
  · rw [exec_inc16, inc16Body_eq, runRow_countWordBody_reg]
  · rw [exec_dec16, dec16Body_eq, runRow_countWordBody_reg]

end Sys2Proof.Machine
end

section
/-!
SUPPORT. Proofs about the rotates and shifts (spec 45_rotate_shift.md R200 to R213): the wiring of each operation in the
statements' words, the rows of an operation on each operand field as one row, and the result written after its flags.
-/

namespace Sys2Proof.Machine

open Sys2Proof.Claims

/-! ### The wiring (R205 to R212) -/

theorem getElem_bit7 {i : Nat} (hi : i < 8) : (0x80 : Byte)[i] = decide (i = 7) :=
  BitVec.getElem_twoPow (i := 7) hi

/-- The pieces that an operation puts together are the byte rotated or shifted: below the joint a bit is read from the
lower piece, above it from the upper one. -/
theorem rotate8_eq_rotated (op : RotOp) (v : Byte) (c : Bool) : rotate8 op v c = rotated op v c := by
  have hbits : (rotate8 op v c).1 = (rotated op v c).1 := by
    ext i hi
    cases op <;> simp only [rotate8, rotated, rlc8, rrc8, rl8, rr8, sla8, sra8, swap8, srl8,
      BitVec.getElem_append (n := 7) (m := 1), BitVec.getElem_append (n := 1) (m := 7),
      BitVec.getElem_append (n := 4) (m := 4)] <;> grind [getElem_bit7]
  have hleaves : (rotate8 op v c).2 = (rotated op v c).2 := by cases op <;> rfl
  exact Prod.ext hbits hleaves

/-! ### Rotates of the accumulator (R200 to R203, R213) -/

/-- The flags, Z always 0, and then A. -/
theorem runRow_rotAcc (code : Byte) (op : RotOp) (s : State) :
    runRow 1 code .none (.r8 .a) (rotAccBody (rotate8 op)) s =
      .next (accDone s 1 (rotated op (hiByte s.af) s.fC).1 false false false (rotated op (hiByte s.af) s.fC).2) := by
  rw [← rotate8_eq_rotated]
  exact congrArg (·.finish code) (s.write8_a_flags 1 false false false _ _)

/-- Settles O51: each row is the accumulator rotate of its operation. -/
theorem rotateAccumulator : Obligations.RotateAccumulator := fun s =>
  ⟨⟨rfl, runRow_rotAcc 0x07 .rlc s⟩, ⟨rfl, runRow_rotAcc 0x0F .rrc s⟩, ⟨rfl, runRow_rotAcc 0x17 .rl s⟩,
    ⟨rfl, runRow_rotAcc 0x1F .rr s⟩⟩

/-! ### Rotates and shifts of an operand `r[z]` (R204 to R212, D16, D19) -/

theorem exec_rot (op : RotOp) (r : R8) (s : State) :
    exec (Instr.rot op r) s =
      runRow 2 (Instr.rot op r).opcode (operandMode r) (operandMode r) (rotBody (rotate8 op)) s := by
  cases op <;> cases r <;> rfl

/-- The state after the flags of a result: Z from the result, N and H 0, C the bit that leaves. -/
def State.rotFlags (s : State) (out : Byte × Bool) : State := s.setFlags (decide (out.1 = 0)) false false out.2

theorem rotBody_rotate8 (op : RotOp) (src dst : Desc) (s : State) :
    rotBody (rotate8 op) src dst s =
      (s.rotFlags (rotated op (s.read8 dst) s.fC)).write8 dst (rotated op (s.read8 dst) s.fC).1 := by
  rw [← rotate8_eq_rotated]
  rfl

/-- On a register: the half is written after the flags, and PC is past the instruction. -/
theorem exec_rot_reg (op : RotOp) {r : R8} {n : Reg8} (hr : r8Reg r = some n) (s : State) :
    exec (Instr.rot op r) s =
      let out := rotated op (r8Value s r) s.fC
      .next { (s.setReg8 n out.1).rotFlags out with pc := s.pc + 2 } := by
  have hread : (s.advance 2).read8 (.reg8 n) = r8Value s r := by rw [State.advance_read8, s.read8_of_r8Reg hr]
  have hrow (code : Byte) : runRow 2 code (.r8 n) (.r8 n) (rotBody (rotate8 op)) s =
      (rotBody (rotate8 op) (.reg8 n) (.reg8 n) (s.advance 2)).finish code := runRow_eq 2 code (.r8 n) (.r8 n) _ s
  rw [exec_rot, operandMode_of_r8Reg hr, hrow, rotBody_rotate8, hread, State.rotFlags,
    State.write8_reg8_flags s 2 (ne_f_of_r8Reg hr)]
  rfl

/-- On the byte at HL: a store there, with the flags already written. -/
theorem storeAnswers_rot (op : RotOp) (s : State) :
    let out := rotated op (s.readByte s.hl) s.fC
    StoreAnswers (Instr.rot op .indHL) s (({ s with pc := s.pc + 2 } : State).rotFlags out) s.hl out.1 id := by
  refine storeAnswers_of_exec ?_ rfl
  rw [exec_rot, runRow_eq, rotBody_rotate8]
  rfl

/-- Settles O52: a row of the extended table reads and writes one operand, a half other than F or the byte at HL. -/
theorem rotateAndShift : Obligations.RotateAndShift := fun s op =>
  ⟨extendedOpcodesFollowTheirFields.1 op, fun _ _ hr => exec_rot_reg op hr s, storeAnswers_rot op s⟩

end Sys2Proof.Machine
end

section
/-!
SUPPORT. Proofs about the bit instructions (spec 46_bit.md R220 to R223): a bit tested, cleared and set in the
statements' words, the rows of an operation on each operand field as one row, and the operand written back.
-/

namespace Sys2Proof.Machine

open Sys2Proof.Claims

/-! ### One bit of a byte (R220 to R222) -/

/-- The bit is 0 exactly when the byte, shifted down to it, is even. -/
theorem not_getLsbD_eq_decide (v : Byte) (b : Nat) : (!v.getLsbD b) = decide (v.toNat / 2 ^ b % 2 = 0) := by
  rw [BitVec.getLsbD, Nat.testBit_eq_decide_div_mod_eq, ← decide_not]
  exact decide_eq_decide.mpr Nat.mod_two_not_eq_one

/-- The byte with only bit `b` has that bit's weight. -/
theorem ofNat_two_pow (b : Nat) : BitVec.ofNat 8 (2 ^ b) = (1 : Byte) <<< b :=
  BitVec.eq_of_toNat_eq ((BitVec.toNat_ofNat _ 8).trans (BitVec.toNat_twoPow 8 b).symm)

/-- A byte masked to one bit is that bit alone or 0. -/
theorem and_one_shiftLeft (v : Byte) (b : Nat) :
    v &&& (1 : Byte) <<< b = if v.getLsbD b then (1 : Byte) <<< b else 0#8 :=
  BitVec.and_twoPow v b

/-- The byte without the bit and the bit alone add up to the byte: clearing a bit that is 1 takes its weight away. -/
theorem and_not_eq_bitCleared (v : Byte) (b : Nat) : v &&& ~~~((1 : Byte) <<< b) = bitCleared v b := by
  have hsum : (v &&& ~~~((1 : Byte) <<< b)) + (v &&& (1 : Byte) <<< b) = v := by
    rw [BitVec.add_eq_or_of_and_eq_zero _ _ (by grind)]
    grind
  rw [and_one_shiftLeft] at hsum
  unfold bitCleared
  split
  next h =>
    have hle : 2 ^ b ≤ v.toNat := Nat.ge_two_pow_of_testBit h
    rw [if_pos h] at hsum
    rw [← BitVec.ofNat_sub_ofNat_of_le _ _ (hle.trans_lt v.isLt) hle, ofNat_two_pow, BitVec.ofNat_toNat,
      BitVec.setWidth_eq]
    exact eq_sub_of_add_eq hsum
  next h =>
    rw [if_neg h, BitVec.add_zero] at hsum
    rwa [BitVec.ofNat_toNat, BitVec.setWidth_eq]

/-- Setting a bit that is 0 adds its weight, and a bit that is 1 is already in the byte. -/
theorem or_eq_bitSet (v : Byte) (b : Nat) : v ||| (1 : Byte) <<< b = bitSet v b := by
  have hmask := and_one_shiftLeft v b
  unfold bitSet
  split
  next h =>
    rw [if_pos h] at hmask
    rw [BitVec.ofNat_toNat, BitVec.setWidth_eq, ← hmask]
    grind
  next h =>
    rw [if_neg h] at hmask
    rw [← BitVec.add_eq_or_of_and_eq_zero _ _ hmask, BitVec.ofNat_add, ofNat_two_pow, BitVec.ofNat_toNat,
      BitVec.setWidth_eq]

/-! ### The rows (R83, R85) -/

theorem exec_bit (b : Idx3) (r : R8) (s : State) :
    exec (Instr.bit b r) s =
      runRow 2 (Instr.bit b r).opcode (operandMode r) (operandMode r) (bitBody b.toNat) s := by
  cases b <;> cases r <;> rfl

theorem exec_res (b : Idx3) (r : R8) (s : State) :
    exec (Instr.res b r) s =
      runRow 2 (Instr.res b r).opcode (operandMode r) (operandMode r) (resBody b.toNat) s := by
  cases b <;> cases r <;> rfl

theorem exec_set (b : Idx3) (r : R8) (s : State) :
    exec (Instr.set b r) s =
      runRow 2 (Instr.set b r).opcode (operandMode r) (operandMode r) (setBody b.toNat) s := by
  cases b <;> cases r <;> rfl

/-! ### `BIT` (R220) -/

/-- The flags from the operand as it stands before the instruction, and no write back. -/
theorem exec_bit_next (b : Idx3) (r : R8) (s : State) :
    exec (Instr.bit b r) s =
      .next (({ s with pc := s.pc + 2 } : State).setFlags (!(r8Value s r).getLsbD b.toNat) false true s.fC) := by
  rw [exec_bit, runRow_eq, bitBody, State.advance_read8, State.read8_operandMode, operandMode_bytes]
  rfl

/-- Settles O53: a row of the extended table tests one operand, and its Z is the tested bit's complement. -/
theorem bitTest : Obligations.BitTest := by
  intro s b r
  refine ⟨extendedOpcodesFollowTheirFields.2.1 b r, ?_⟩
  rw [exec_bit_next, not_getLsbD_eq_decide]
  rfl

/-! ### `RES` and `SET` (R221, R222, D8) -/

/-- The operand changed by `f` and written back, with no flag. -/
def updateBody (f : Byte → Byte) : Body := fun _ dst s => s.write8 dst (f (s.read8 dst))

theorem resBody_eq (b : Nat) : resBody b = updateBody (bitCleared · b) := by
  funext _ dst s
  rw [updateBody, ← and_not_eq_bitCleared]
  rfl

theorem setBody_eq (b : Nat) : setBody b = updateBody (bitSet · b) := by
  funext _ dst s
  rw [updateBody, ← or_eq_bitSet]
  rfl

/-- An update of a register: the half is written, and PC is past the instruction. -/
theorem runRow_updateBody_reg {r : R8} {n : Reg8} (hr : r8Reg r = some n) (op : Byte) (f : Byte → Byte) (s : State) :
    runRow 2 op (operandMode r) (operandMode r) (updateBody f) s =
      .next (({ s with pc := s.pc + 2 } : State).setReg8 n (f (r8Value s r))) := by
  rw [runRow_eq, updateBody, State.advance_read8, State.read8_operandMode, operandMode_of_r8Reg hr]
  rfl

/-- An update of the byte at HL answers as a store there. -/
theorem storeAnswers_updateBody {i : Instr} {s : State} {body : Body} {f : Byte → Byte} (hbody : body = updateBody f)
    (hi : exec i s = runRow 2 i.opcode .indHL .indHL body s) :
    StoreAnswers i s { s with pc := s.pc + 2 } s.hl (f (s.readByte s.hl)) id := by
  subst hbody
  exact storeAnswers_of_exec (hi.trans (runRow_eq 2 _ .indHL .indHL _ s)) rfl

/-- Settles O54: both rows update one operand, a half or the byte at HL. -/
theorem bitResetAndSet : Obligations.BitResetAndSet := by
  intro s b at2
  obtain ⟨_, _, hres, hset, _⟩ := extendedOpcodesFollowTheirFields
  refine ⟨fun r n hr => ⟨hres b r, ?_, hset b r, ?_⟩,
    ?_, storeAnswers_updateBody (resBody_eq _) (exec_res b .indHL s),
    ?_, storeAnswers_updateBody (setBody_eq _) (exec_set b .indHL s)⟩
  · rw [exec_res, resBody_eq, runRow_updateBody_reg hr]
  · rw [exec_set, setBody_eq, runRow_updateBody_reg hr]
  · rw [hres, Nat.add_right_comm]
    rfl
  · rw [hset, Nat.add_right_comm]
    rfl

end Sys2Proof.Machine
end

section
/-!
SUPPORT. Proofs about the control transfers (spec 47_control.md R230 to R242): the rows of each transfer as one row, a
conditional row from its unconditional one, and transfers to their own address.
-/

namespace Sys2Proof.Machine

open Sys2Proof.Claims

/-! ### A body under a condition (R230) -/

/-- A body that runs only if a condition holds. -/
def Body.onlyIf (body : Body) (cc : Cond) : Body := fun src dst s => if s.holds cc then body src dst s else .done s

theorem State.advance_holds (s : State) (n : Word) (cc : Cond) : (s.advance n).holds cc = condition s cc := by
  cases cc <;> rfl

/-- A row under a condition answers as the row without it, or only moves PC past the instruction. -/
theorem runRow_onlyIf {size : Word} {op : Byte} {src dst : Mode} {body : Body} {s t : State}
    (h : runRow size op src dst body s = .next t) (cc : Cond) :
    runRow size op src dst (body.onlyIf cc) s =
      .next (if condition s cc then t else s.advance (size + src.bytes + dst.bytes)) := by
  rw [runRow_eq] at h ⊢
  rw [Body.onlyIf, State.advance_holds]
  cases condition s cc with
  | true => exact h
  | false => rfl

/-! ### Jumps (R231 to R235) -/

theorem encode_jpCond (cc : Cond) (a16 : Word) :
    encode (Instr.jpCond cc a16) = [opByte (0xC2 + 8 * condIndex cc), loByte a16, hiByte a16] := by
  cases cc <;> rfl

theorem encode_jrCond (cc : Cond) (e8 : Byte) :
    encode (Instr.jrCond cc e8) = [opByte (0x20 + 8 * condIndex cc), e8] := by
  cases cc <;> rfl

theorem exec_jpCond (cc : Cond) (a16 : Word) (s : State) :
    exec (Instr.jpCond cc a16) s =
      runRow 1 (Instr.jpCond cc a16).opcode (.d16 a16) .none (jpBody.onlyIf cc) s := by
  cases cc <;> rfl

theorem exec_jrCond (cc : Cond) (e8 : Byte) (s : State) :
    exec (Instr.jrCond cc e8) s = runRow 1 (Instr.jrCond cc e8).opcode (.d8 e8) .none (jrBody.onlyIf cc) s := by
  cases cc <;> rfl

theorem runRow_jp (op : Byte) (a16 : Word) (s : State) :
    runRow 1 op (.d16 a16) .none jpBody s = .next { s with pc := a16 } := rfl

/-- A relative target is one sum, counted from the address after the operand. -/
theorem runRow_jr (op : Byte) (e8 : Byte) (s : State) :
    runRow 1 op (.d8 e8) .none jrBody s = .next { s with pc := s.pc + 2 + e8.signExtend 16 } := by
  rw [runRow_eq, jrBody, addrel16_eq]
  rfl

/-- Settles O55: a conditional jump is its unconditional row under the condition. -/
theorem jumps : Obligations.Jumps := by
  intro s
  refine ⟨fun a16 => ⟨rfl, runRow_jp 0xC3 a16 s⟩, fun cc a16 => ⟨encode_jpCond cc a16, ?_⟩, ⟨rfl, rfl⟩,
    fun e8 => ⟨rfl, runRow_jr 0x18 e8 s⟩, fun cc e8 => ⟨encode_jrCond cc e8, ?_⟩⟩
  · rw [exec_jpCond, runRow_onlyIf (runRow_jp _ a16 s)]
    cases condition s cc <;> rfl
  · rw [exec_jrCond, runRow_onlyIf (runRow_jr _ e8 s)]
    cases condition s cc <;> rfl

/-! ### Calls (R236, R237, R241, D19) -/

theorem encode_callCond (cc : Cond) (a16 : Word) :
    encode (Instr.callCond cc a16) = [opByte (0xC4 + 8 * condIndex cc), loByte a16, hiByte a16] := by
  cases cc <;> rfl

theorem encode_rst (k : Idx3) : encode (Instr.rst k) = [opByte (0xC7 + 8 * k.toNat)] := by cases k <;> rfl

theorem exec_callCond (cc : Cond) (a16 : Word) (s : State) :
    exec (Instr.callCond cc a16) s =
      runRow 1 (Instr.callCond cc a16).opcode (.d16 a16) .none (callBody.onlyIf cc) s := by
  cases cc <;> rfl

theorem exec_rst (k : Idx3) (s : State) :
    exec (Instr.rst k) s =
      runRow 1 (Instr.rst k).opcode .none .none (rstBody (BitVec.ofNat 16 (8 * k.toNat))) s := by
  cases k <;> rfl

/-- The pushed word is the address after the operand. -/
theorem runRow_call (op : Byte) (a16 : Word) (s : State) :
    runRow 1 op (.d16 a16) .none callBody s = .next { pushed s (s.pc + 3) with pc := a16 } := by
  rw [runRow_eq, callBody, State.push16_eq_pushed]
  rfl

theorem runRow_rst (op : Byte) (n : Word) (s : State) :
    runRow 1 op .none .none (rstBody n) s = .next { pushed s (s.pc + 1) with pc := n } := by
  rw [runRow_eq, rstBody, State.push16_eq_pushed]
  rfl

/-- Settles O56: a push of the next address and a jump, under the condition of the conditional form. -/
theorem calls : Obligations.Calls := fun s =>
  ⟨fun a16 => ⟨rfl, runRow_call 0xCD a16 s⟩,
    fun cc a16 => ⟨encode_callCond cc a16, (exec_callCond cc a16 s).trans (runRow_onlyIf (runRow_call _ a16 s) cc)⟩,
    fun k => ⟨encode_rst k, (exec_rst k s).trans (runRow_rst _ _ s)⟩⟩

/-! ### Returns (R238 to R240, R271) -/

theorem encode_retCond (cc : Cond) : encode (Instr.retCond cc) = [opByte (0xC0 + 8 * condIndex cc)] := by
  cases cc <;> rfl

theorem exec_retCond (cc : Cond) (s : State) :
    exec (Instr.retCond cc) s = runRow 1 (Instr.retCond cc).opcode .none .none (retBody.onlyIf cc) s := by
  cases cc <;> rfl

/-- The return in the statements' words: PC is the word on top of the stack, and SP is two higher. -/
theorem State.returnFromCall_eq (s : State) : s.returnFromCall = { s with pc := stackTop s, sp := s.sp + 2 } := by
  rw [State.returnFromCall, State.pop16_eq]
  rfl

theorem runRow_ret (op : Byte) (s : State) :
    runRow 1 op .none .none retBody s = .next { s with pc := stackTop s, sp := s.sp + 2 } := by
  rw [runRow_eq, retBody, State.returnFromCall_eq]
  rfl

theorem exec_reti_eq (s : State) :
    exec .reti s = .next { s with pc := stackTop s, sp := s.sp + 2, ime := true } := by
  calc exec .reti s
      = .next (s.advance 1).returnFromInterrupt := runRow_eq 1 0xD9 .none .none retiBody s
    _ = .next { s with pc := stackTop s, sp := s.sp + 2, ime := true } := by
      rw [State.returnFromInterrupt, State.returnFromCall_eq]
      rfl

/-- Settles O57: a return is one pop, under the condition of the conditional form, and `RETI` sets IME after it. -/
theorem returns : Obligations.Returns := fun s =>
  ⟨⟨rfl, runRow_ret 0xC9 s⟩,
    fun cc => ⟨encode_retCond cc, (exec_retCond cc s).trans (runRow_onlyIf (runRow_ret _ s) cc)⟩,
    ⟨rfl, exec_reti_eq s⟩⟩

/-! ### Transfers to their own address (R242, R263) -/

/-- An instruction that goes from `s` to its own address, with all else as in `u` (whose PC, CRASH and ICOUNT are still
those of `s`), stalls with the effects of `u` done. -/
theorem stalls_of_exec {i : Instr} {s u : State} {target : Word} (h : exec i s = .next { u with pc := target })
    (htarget : target = s.pc) (hpc : u.pc = s.pc := by rfl) (hcrash : u.crash = s.crash := by rfl)
    (hcount : u.icount = s.icount := by rfl) : Stalls i s u := by
  rw [htarget, ← hpc] at h
  intro rest hs hd
  obtain ⟨_, hstalled, _⟩ := stepRunsDecodedInstruction s u i rest hs hd h
  rw [← hcount]
  exact hstalled (hcrash.trans hs) (u.serialStep_pc.trans hpc)

/-- The offset 0xFE is -2, the way back from the address after the operand. -/
theorem add_two_add_signExtend_FE (pc : Word) : pc + 2 + (0xFE : Byte).signExtend 16 = pc := by
  rw [BitVec.add_assoc]
  exact BitVec.add_zero pc

/-- A conditional transfer whose condition fails only moves PC past its one to three bytes. -/
theorem exec_of_condition_false {s : State} {cc : Cond} {a16 : Word} {e8 : Byte} {i : Instr}
    (hi : i ∈ [Instr.jpCond cc a16, Instr.jrCond cc e8, Instr.callCond cc a16, Instr.retCond cc])
    (hcc : condition s cc = false) : ∃ n : Word, n ≠ 0 ∧ exec i s = .next { s with pc := s.pc + n } := by
  obtain ⟨_, hjp, _, _, hjr⟩ := jumps s
  obtain ⟨_, hcall, _⟩ := calls s
  obtain ⟨_, hret, _⟩ := returns s
  simp only [List.mem_cons, List.not_mem_nil, or_false] at hi
  obtain rfl | rfl | rfl | rfl := hi
  · exact ⟨3, by decide, by rw [(hjp cc a16).2, hcc]; rfl⟩
  · exact ⟨2, by decide, by rw [(hjr cc e8).2, hcc]; rfl⟩
  · exact ⟨3, by decide, by rw [(hcall cc a16).2, hcc]; rfl⟩
  · exact ⟨1, by decide, by rw [(hret cc).2, hcc]; rfl⟩

/-- An instruction that only moves PC away from its own address completes without a crash. -/
theorem step_of_exec_pc_ne {s : State} {i : Instr} {rest : List Byte} {n : Word} (hn : n ≠ 0)
    (h : exec i s = .next { s with pc := s.pc + n }) (hs : s.crash = none) (hd : decode (windowAt s) = .ok (i, rest)) :
    ∃ t, step s = .next t ∧ t.crash = none := by
  obtain ⟨_, _, hcompletes⟩ := stepRunsDecodedInstruction s _ i rest hs hd h
  have hne : s.pc + n ≠ s.pc := fun heq => hn (add_eq_left.mp heq)
  exact ⟨_, hcompletes hs (by rwa [State.serialStep_pc]), (State.serialStep_crash _).trans hs⟩

/-- Settles O12: a transfer taken leaves PC at its target, which is its own address, and a transfer not taken leaves PC
past itself. -/
theorem transferToItselfStalls : Obligations.TransferToItselfStalls := by
  intro s returned
  have hback := add_two_add_signExtend_FE s.pc
  obtain ⟨hjp, hjpCond, ⟨_, hjpHl⟩, hjr, hjrCond⟩ := jumps s
  obtain ⟨hcall, hcallCond, hrst⟩ := calls s
  obtain ⟨⟨_, hret⟩, hretCond, _, hreti⟩ := returns s
  refine ⟨stalls_of_exec (hjp s.pc).2 rfl, stalls_of_exec hjpHl, stalls_of_exec (hjr 0xFE).2 hback,
    stalls_of_exec (hcall s.pc).2 rfl, fun k hk => stalls_of_exec (hrst k).2 hk,
    fun htop => ⟨stalls_of_exec hret htop, stalls_of_exec hreti htop⟩, fun cc hcc => ⟨?_, ?_, ?_, fun htop => ?_⟩,
    fun cc a16 e8 i rest hi hcc hs hd => ?_⟩
  · exact stalls_of_exec (hjpCond cc s.pc).2 (if_pos hcc)
  · exact stalls_of_exec (hjrCond cc 0xFE).2 ((if_pos hcc).trans hback)
  · exact stalls_of_exec ((hcallCond cc s.pc).2.trans (congrArg _ (if_pos hcc))) rfl
  · exact stalls_of_exec ((hretCond cc).2.trans (congrArg _ (if_pos hcc))) htop
  · obtain ⟨n, hn, h⟩ := exec_of_condition_false hi hcc
    exact step_of_exec_pc_ne hn h hs hd

end Sys2Proof.Machine
end

section
/-!
SUPPORT. Proofs about the system instructions (spec 48_system.md R250 to R257): NOP and the interrupt latch, the unset
opcodes, and the prefix byte as the extended instruction of the byte after it.
-/

namespace Sys2Proof.Machine

open Sys2Proof.Claims

/-! ### NOP, DI and EI (R250 to R252) -/

/-- Settles O58: each is the row of a body that writes no more than IME. -/
theorem nopAndInterruptLatch : Obligations.NopAndInterruptLatch := fun s =>
  ⟨⟨rfl, runRow_eq 1 0x00 .none .none nopBody s⟩, ⟨rfl, runRow_eq 1 0xF3 .none .none diBody s⟩,
    ⟨rfl, runRow_eq 1 0xFB .none .none eiBody s⟩⟩

/-! ### The unset opcodes (R253 to R255, R262) -/

/-- Each of the thirteen has an arm of its own, and every one is the unknown-opcode crash with the instruction's byte. -/
theorem exec_of_mem_unsetInstrs {i : Instr} (h : i ∈ unsetInstrs) (s : State) :
    exec i s = .next (s.enterCrashed .unknownOpcode i.opcode) := by
  fin_cases h <;> rfl

/-- Settles O10, from the arms of the thirteen and their one-byte encodings. -/
theorem unsetOpcodesCrash : Obligations.UnsetOpcodesCrash :=
  ⟨fun _ hi s => exec_of_mem_unsetInstrs hi s, rfl⟩

/-! ### The prefix byte is the extended instruction (R256, D2) -/

/-- The four quarters of a table (R83). -/
theorem fieldX_cases (op : Byte) : fieldX op = 0 ∨ fieldX op = 1 ∨ fieldX op = 2 ∨ fieldX op = 3 := by
  have hlt : fieldX op < 4 := (op.extractLsb' 6 2).isLt
  omega

theorem fieldY_lt (op : Byte) : fieldY op < 8 := (op.extractLsb' 3 3).isLt

theorem Idx3.toNat_ofCode {n : Nat} (h : n < 8) : (Idx3.ofCode n).toNat = n := by
  interval_cases n <;> rfl

/-- An extended instruction is the row of its byte: the operand of the field `z`, and the body of the fields `x` and
`y` (R83). -/
theorem exec_extendedInstr (op : Byte) (s : State) :
    exec (extendedInstr op) s =
      runRow 2 op (operandMode (R8.ofCode (fieldZ op))) (operandMode (R8.ofCode (fieldZ op))) (extendedBody op) s := by
  have hop := (extendedInstr_opcode op).2
  have hy := Idx3.toNat_ofCode (fieldY_lt op)
  obtain hx | hx | hx | hx := fieldX_cases op <;> simp only [extendedInstr, extendedBody, hx] at hop ⊢
  · rw [exec_rot, hop]
  · rw [exec_bit, hop, hy]
  · rw [exec_res, hop, hy]
  · rw [exec_set, hop, hy]

/-- An 8-bit write anywhere but through the memory descriptor of 0xFF0F completes, and leaves PC (R111). -/
theorem State.write8_done (s : State) {d : Desc} (hd : d ≠ .mem ifAddr) (v : Byte) :
    ∃ u, s.write8 d v = .done u ∧ u.pc = s.pc := by
  cases d with
  | mem a => exact ⟨_, s.write8_mem_ne v fun ha => hd (congrArg Desc.mem ha), rfl⟩
  | reg8 n => exact ⟨_, rfl, s.setReg8_pc n v⟩
  | none => exact ⟨s, rfl, rfl⟩
  | reg16 n => exact ⟨s, rfl, rfl⟩
  | imm8 w => exact ⟨s, rfl, rfl⟩
  | imm16 w => exact ⟨s, rfl, rfl⟩

/-- A body that completes and leaves PC, unless its destination is the memory descriptor of 0xFF0F. -/
def Body.CompletesAwayFromIf (body : Body) : Prop :=
  ∀ (src dst : Desc) (s : State), dst ≠ .mem ifAddr → ∃ u, body src dst s = .done u ∧ u.pc = s.pc

/-- Every extended body ends in one write of its operand, or in none (`BIT`). -/
theorem extendedBody_completes (op : Byte) : (extendedBody op).CompletesAwayFromIf := by
  unfold extendedBody
  split <;> intro src dst s hd
  · exact (s.setFlags _ _ _ _).write8_done hd _
  · exact ⟨_, rfl, rfl⟩
  · exact s.write8_done hd _
  · exact s.write8_done hd _

/-- An operand `r[z]` is the byte at 0xFF0F only as `(HL)` with HL holding that address (R82). -/
theorem State.resolve_operandMode_ne (s : State) (r : R8) (h : s.hl ≠ ifAddr) :
    (s.resolve (operandMode r)).1 ≠ .mem ifAddr := by
  cases r
  case indHL => exact fun hmem => h (Desc.mem.inj hmem)
  all_goals exact Desc.reg8_ne_mem _ _

/-- An extended row with HL away from 0xFF0F completes past its two bytes, with CRASH as it was. -/
theorem runRow_extendedBody_next (op : Byte) (r : R8) (s : State) (h : s.hl ≠ ifAddr) :
    ∃ t, runRow 2 op (operandMode r) (operandMode r) (extendedBody op) s = .next t ∧
      t.crash = s.crash ∧ t.pc = s.pc + 2 := by
  have hup := extendedBody_sound op (s.resolve (operandMode r)).1 (s.resolve (operandMode r)).1 (s.advance 2)
  obtain ⟨u, hu, hpc⟩ := extendedBody_completes op _ _ (s.advance 2) (s.resolve_operandMode_ne r h)
  rw [hu] at hup
  rw [runRow_eq, operandMode_bytes]
  exact ⟨u, congrArg (·.finish op) hu, hup.crash_eq, hpc⟩

/-- Settles O59: the prefix row is the row of the byte after it, which is the row of the extended instruction. -/
theorem prefixRunsTheExtendedInstruction : Obligations.PrefixRunsTheExtendedInstruction := fun s =>
  ⟨(exec_extendedInstr _ s).symm, runRow_extendedBody_next _ _ s⟩

end Sys2Proof.Machine
end

section
/-!
SUPPORT. Proofs about interrupt entry and the serial link (spec 60_exceptions.md R264 to R268, R281 to R284): the hook of a
store to 0xFF0F and the serial step in their three cases each, and the host's operations between steps.
-/

namespace Sys2Proof.Machine

open Sys2Proof.Claims

/-- Settles O13: the dispatch condition and the table of vectors tell the three cases of the hook apart. -/
theorem interruptHook : Obligations.InterruptHook := by
  intro s v
  refine ⟨fun hd => ?_, fun _ hd hv => State.write8_if_entered hd hv, fun hd hv => ?_⟩
  · exact s.write8_if_store v (Bool.eq_false_iff.mpr (mt (s.dispatches_iff v).mp hd))
  · exact ⟨_, s.write8_if_raise ((s.dispatches_iff v).mpr hd) (interruptVector_eq_none hv), rfl⟩

/-- Settles O14: the three cases of the serial step exclude one another by SC and by the room in the buffer. -/
theorem serialStepSendsOneByte : Obligations.SerialStepSendsOneByte := by
  intro s sent
  obtain ⟨hsc, h⟩ | ⟨hsc, hfull, h⟩ | ⟨hsc, hroom, h⟩ := s.serialStep_cases
  · exact ⟨fun _ => h, fun hstart => absurd hstart hsc, fun hstart => absurd hstart hsc⟩
  · exact ⟨fun hne => absurd hsc hne, fun _ _ => h, fun _ hroom => absurd hfull (Nat.not_le.mpr hroom)⟩
  · exact ⟨fun hne => absurd hsc hne, fun _ hfull => absurd hfull (Nat.not_le.mpr hroom), fun _ _ => h⟩

/-- Settles O60: a host write is the plain store, which is read back. -/
theorem hostOperations : Obligations.HostOperations := fun s =>
  ⟨rfl, rfl, fun a v => ⟨rfl, (s.readByte_storeByte a a v).trans (if_pos rfl)⟩⟩

end Sys2Proof.Machine
end

section
/-!
SUPPORT. Proofs about reset and launch (spec 70_reset_and_hazards.md R300 to R305): the bytes of a loaded image, and the three
invariants from power-on through load and reset.
-/

namespace Sys2Proof.Machine

/-! ### The bytes of a loaded image (R305) -/

/-- A loaded image reads back from its first address on, and every other address reads as before. -/
theorem Memory.read_loadFrom (m : Memory) (a : Nat) (image : List Byte) (b : Nat) :
    Memory.read (Memory.loadFrom m a image) b =
      if b < a then Memory.read m b else image[b - a]?.getD (Memory.read m b) := by
  induction image generalizing m a with
  | nil => simp [Memory.loadFrom]
  | cons v rest ih =>
    rw [Memory.loadFrom, ih, Memory.read_write]
    obtain hlt | rfl | hgt := Nat.lt_trichotomy b a
    · rw [if_pos (Nat.lt_succ_of_lt hlt), if_neg hlt.ne, if_pos hlt]
    · simp
    · obtain ⟨k, rfl⟩ := Nat.exists_eq_add_of_lt hgt
      have hk : a + k + 1 - (a + 1) = k := by omega
      have hk' : a + k + 1 - a = k + 1 := by omega
      rw [if_neg (by omega), if_neg hgt.ne', if_neg hgt.not_gt, hk, hk', List.getElem?_cons_succ]

/-- An address after `Load`: the image's byte, or past its end what was there. -/
theorem State.readByte_load (s : State) (image : List Byte) (a : Word) :
    (s.load image).readByte a = image[a.toNat]?.getD (s.readByte a) := by
  calc (s.load image).readByte a
      = (image.take Config.addressSpaceSize)[a.toNat]?.getD (s.readByte a) := Memory.read_loadFrom s.mem 0 _ a.toNat
    _ = image[a.toNat]?.getD (s.readByte a) := by rw [List.getElem?_take_of_lt (Memory.addr_lt a)]

/-- Settles O26: every address is one of the first 65,536, so the image's byte for it is loaded if there is one. -/
theorem loadCopiesTheImage : Obligations.LoadCopiesTheImage := by
  intro s image a
  refine ⟨fun b hb => ?_, fun hlen => ?_, rfl⟩
  · rw [State.readByte_load, hb, Option.getD_some]
  · rw [State.readByte_load, List.getElem?_eq_none hlen, Option.getD_none]

/-! ### The three invariants at reset and launch (R300 to R303) -/

/-- An image that fits the Address Space from its first address on is loaded by stores that keep the canonical form. -/
theorem Memory.wf_loadFrom {m : Memory} {a : Nat} {image : List Byte} (ha : a + image.length ≤ Config.addressSpaceSize)
    (hm : Memory.wf m = true) : Memory.wf (Memory.loadFrom m a image) = true := by
  induction image generalizing m a with
  | nil => exact hm
  | cons v rest ih =>
    rw [List.length_cons] at ha
    exact ih (by omega) (Memory.wf_write m a v (by omega) hm)

theorem State.flagsPadded_iff (s : State) : s.flagsPadded = true ↔ s.af &&& 0x000F = 0 := beq_iff_eq

theorem State.powerOn_inv (capacity : Nat) : (State.powerOn capacity).Inv where
  memory := rfl
  flags := (State.flagsPadded_iff _).mpr (by decide : (0x0000 : Word) &&& 0x000F = 0)
  serial := by simp [State.serialConsistent, State.powerOn]

theorem State.Inv.load {s : State} (h : s.Inv) (image : List Byte) : (s.load image).Inv where
  memory := Memory.wf_loadFrom (by rw [Nat.zero_add]; exact List.length_take_le _ _) h.memory
  flags := h.flags
  serial := h.serial

/-- `Reset()` gives F its low four bits 0 and leaves memory and the serial buffer (D6). -/
theorem State.Inv.hostReset {s : State} (h : s.Inv) : s.hostReset.Inv where
  memory := h.memory
  flags := (State.flagsPadded_iff _).mpr (by decide : (0x01B0 : Word) &&& 0x000F = 0)
  serial := h.serial

/-- Settles O18: power-on meets the invariants, and `Load` and `Reset()` keep them. -/
theorem launchStatesMeetTheInvariants : Obligations.LaunchStatesMeetTheInvariants :=
  ⟨(State.powerOn_inv Config.resetSerialCapacity).hostReset, fun capacity image =>
    ⟨State.powerOn_inv capacity, ((State.powerOn_inv capacity).load image).hostReset⟩⟩

/-- Settles O25: the state after reset is `Reset()` of power-on, whose memory lists no byte. -/
theorem resetValues : Obligations.ResetValues :=
  ⟨fun _ => rfl, rfl, fun _ => rfl, rfl, rfl, rfl, rfl⟩

end Sys2Proof.Machine
end
